-- ==== Sys2Proof/Word.lean ====
section
/-! DEFINITION. The words of the three formats (30_encoding.md R70) and the widths the spec fixes (00_scope.md R13). -/

namespace Sys2Proof

/-- Three-bit tag of a `TOK` or `PU` word (R71, R73). -/
abbrev Tag := BitVec 3

/-- Acknowledgement-handle identifier, `HW = 8` bits (R13, R60). -/
abbrev Handle := BitVec 8

/-- A byte: an element of WRITE's operand, or a serialized unit (R42, R73). -/
abbrev Byte := BitVec 8

/-- An entry of the token queue, 19 bits (R71). -/
abbrev TokWord := BitVec 19

/-- An entry of the packed-unit queue, 11 bits (R73). -/
abbrev PuWord := BitVec 11

/-- `TW = 64`: bits of the timestamp (R13). -/
abbrev Time := BitVec 64

/-- `FW = 32`: bits of the carrier word (R13). -/
abbrev Freq := BitVec 32

/-- The operand ports of a host operation (R74): `bytes` for WRITE; `t`, `a`, `f`, `p` for SAMPLE. -/
structure Ports where
  bytes : List Byte
  t     : Time
  a     : Nat
  f     : Freq
  p     : Bool
deriving DecidableEq, Repr

/-- Every port at zero: what a port carries when no operation reads it. -/
def Ports.zero : Ports := { bytes := [], t := 0#64, a := 0, f := 0#32, p := false }

/-- A word of one of the three formats; the kind comes from the queue or port it stands at, never from its bits (R70). -/
inductive Word where
  | tok (w : TokWord)
  | pu  (w : PuWord)
  | cmd (op : BitVec 3) (ports : Ports)
deriving DecidableEq, Repr

end Sys2Proof
end

