-- ==== Sys2Proof/Syntax.lean ====
section
/-! DEFINITION. The instructions: one constructor per row of spec/opcode_table.json, in the table's order. -/

namespace Sys2Proof

/-- The words the block decodes (30_encoding.md R70 to R82). `TOK` rows are decoded by the packer, `PU` rows by the
sequencer, `CMD` rows by the host interface. A marker's ignored upper payload byte (R71) is no operand. -/
inductive Instr where
  /-- `TOK.DATA` (R111): the 16-bit pattern word. -/
  | tokData (p : BitVec 16)
  /-- `TOK.PRE` (R113): the handle. -/
  | tokPre (h : Handle)
  /-- `TOK.EOM` (R114): the handle. -/
  | tokEom (h : Handle)
  /-- `TOK.EOS` (R117): the handle. -/
  | tokEos (h : Handle)
  /-- `TOK.RSVD` (R118): the reserved tag, 4 to 7, and the low payload byte. -/
  | tokRsvd (g : Tag) (d : Byte)
  /-- `PU.UNIT` (R133, R142): the serialized unit. -/
  | puUnit (u : Byte)
  /-- `PU.PRE` (R135 to R137): the handle. -/
  | puPre (h : Handle)
  /-- `PU.EOM` (R138): the handle. -/
  | puEom (h : Handle)
  /-- `PU.EOS` (R139, R140): the handle. -/
  | puEos (h : Handle)
  /-- `PU.RSVD` (R134): the reserved tag, 4 to 7, and the data byte. -/
  | puRsvd (g : Tag) (d : Byte)
  /-- `WRITE` (R90): the bytes on the operand port. -/
  | write (bytes : List Byte)
  /-- `ENDSESSION` (R96). -/
  | endSession
  /-- `CLOSESESSION` (R99). -/
  | closeSession
  /-- `ABORTWHENDONE` (R100). -/
  | abortWhenDone
  /-- `SAMPLE` (R170): timestamp, and the three ignored operands (R171). -/
  | sample (t : Time) (a : Nat) (f : Freq) (p : Bool)
  /-- `CMD.RSVD5` (R82). -/
  | cmdRsvd5
  /-- `CMD.RSVD6` (R82). -/
  | cmdRsvd6
  /-- `CMD.RSVD7` (R82). -/
  | cmdRsvd7
deriving DecidableEq, Repr

end Sys2Proof
end

