-- ==== Sys2Proof/WellFormed.lean ====
section
/-! DEFINITION. Which instructions the encoding admits: a reserved word carries a tag of 4 to 7 (R71, R73). -/

namespace Sys2Proof

/-- A tag the spec reserves: 4 to 7 (R80, R81). -/
def Tag.isReserved (g : Tag) : Bool := decide (4 ≤ g.toNat)

/-- Well-formed instructions: those some word decodes to. Every operand but a reserved tag is free. -/
def Instr.wellFormed : Instr → Bool
  | .tokRsvd g _ => Tag.isReserved g
  | .puRsvd g _ => Tag.isReserved g
  | .tokData _ => true
  | .tokPre _ => true
  | .tokEom _ => true
  | .tokEos _ => true
  | .puUnit _ => true
  | .puPre _ => true
  | .puEom _ => true
  | .puEos _ => true
  | .write _ => true
  | .endSession => true
  | .closeSession => true
  | .abortWhenDone => true
  | .sample _ _ _ _ => true
  | .cmdRsvd5 => true
  | .cmdRsvd6 => true
  | .cmdRsvd7 => true

end Sys2Proof
end

