-- ==== Sys2Proof/Decode.lean ====
section
/-! DEFINITION. The three decoders, the word reader of the opcode table, and the encoder (30_encoding.md R70 to R82). -/

namespace Sys2Proof

/-- `w[18:16]` of a `TOK` word (R71). -/
def tokTag (w : TokWord) : Tag := w.extractLsb' 16 3

/-- `w[7:0]` of a `TOK` word: a marker's handle, a reserved word's data (R71, R118). -/
def tokLow (w : TokWord) : Byte := w.extractLsb' 0 8

/-- `w[15:0]` of a `TOK` word: the pattern of a data token (R71). -/
def tokPattern (w : TokWord) : BitVec 16 := w.extractLsb' 0 16

/-- `w[10:8]` of a `PU` word (R73). -/
def puTag (w : PuWord) : Tag := w.extractLsb' 8 3

/-- `w[7:0]` of a `PU` word (R73). -/
def puData (w : PuWord) : Byte := w.extractLsb' 0 8

/-- The packer's decoder (R71, R77). `payload[15:8]` of every non-data word is ignored (U11). -/
def decodeTok (w : TokWord) : Instr :=
  match (tokTag w).toNat with
  | 0 => .tokData (tokPattern w)
  | 1 => .tokPre (tokLow w)
  | 2 => .tokEom (tokLow w)
  | 3 => .tokEos (tokLow w)
  | _ => .tokRsvd (tokTag w) (tokLow w)

/-- The sequencer's decoder (R73, R78). -/
def decodePu (w : PuWord) : Instr :=
  match (puTag w).toNat with
  | 0 => .puUnit (puData w)
  | 1 => .puPre (puData w)
  | 2 => .puEom (puData w)
  | 3 => .puEos (puData w)
  | _ => .puRsvd (puTag w) (puData w)

/-- The host interface's decoder: opcode and operand ports (R74, R79, R82). A three-bit opcode above 6 is 7. -/
def decodeCmd (op : BitVec 3) (ports : Ports) : Instr :=
  match op.toNat with
  | 0 => .write ports.bytes
  | 1 => .endSession
  | 2 => .closeSession
  | 3 => .abortWhenDone
  | 4 => .sample ports.t ports.a ports.f ports.p
  | 5 => .cmdRsvd5
  | 6 => .cmdRsvd6
  | _ => .cmdRsvd7

/-- Decoding a word by the kind of place it stands at (R70); total, every word of the three formats has a row. -/
def decode : Word → Instr
  | .tok w => decodeTok w
  | .pu w => decodePu w
  | .cmd op ports => decodeCmd op ports

/-- Why a number is no word of the block. -/
inductive DecodeError where
  /-- No format has this many bits. -/
  | noSuchFormat (nbits : Nat)
  /-- A bit above the format's width is set. -/
  | bitsAboveFormat (w : Nat)
deriving DecidableEq, Repr

/-- A number of `nbits` bits (a format's 3, 11 or 19 bits, or these rounded up to whole bytes) read as a word; the
operand ports of a `CMD` word are not part of its bits (R74) and read zero here. -/
def readWord (nbits w : Nat) : Except DecodeError Word :=
  if nbits = 3 ∨ nbits = 8 then
    if w < 2 ^ 3 then .ok (.cmd (BitVec.ofNat 3 w) Ports.zero) else .error (.bitsAboveFormat w)
  else if nbits = 11 ∨ nbits = 16 then
    if w < 2 ^ 11 then .ok (.pu (BitVec.ofNat 11 w)) else .error (.bitsAboveFormat w)
  else if nbits = 19 ∨ nbits = 24 then
    if w < 2 ^ 19 then .ok (.tok (BitVec.ofNat 19 w)) else .error (.bitsAboveFormat w)
  else .error (.noSuchFormat nbits)

/-- The decoder on numbers, refusing by name what is no word of the block. -/
def decodeBits (nbits w : Nat) : Except DecodeError Instr :=
  match readWord nbits w with
  | .ok word => .ok (decode word)
  | .error e => .error e

/-- The host's question: the instruction read from `nbits` bits numbered as spec/opcode_table.json numbers them. -/
def decodeTableWord (nbits w : Nat) : Option Instr :=
  match decodeBits nbits w with
  | .ok i => some i
  | .error _ => none

/-- A non-data `TOK` word: tag, `payload[15:8] = 0`, low byte (R71). -/
def tokMarker (g : Tag) (d : Byte) : TokWord := g ++ (0#8 ++ d)

/-- A data `TOK` word: `{0b000, p}` (R75). -/
def tokDataWord (p : BitVec 16) : TokWord := 0#3 ++ p

/-- A `PU` word: `{tag, data}` (R73, R75). -/
def puWord (g : Tag) (d : Byte) : PuWord := g ++ d

/-- The word of a well-formed instruction (R71, R73, R74); ports an operation does not read carry zero. -/
def encode : Instr → Word
  | .tokData p => .tok (tokDataWord p)
  | .tokPre h => .tok (tokMarker 1#3 h)
  | .tokEom h => .tok (tokMarker 2#3 h)
  | .tokEos h => .tok (tokMarker 3#3 h)
  | .tokRsvd g d => .tok (tokMarker g d)
  | .puUnit u => .pu (puWord 0#3 u)
  | .puPre h => .pu (puWord 1#3 h)
  | .puEom h => .pu (puWord 2#3 h)
  | .puEos h => .pu (puWord 3#3 h)
  | .puRsvd g d => .pu (puWord g d)
  | .write bytes => .cmd 0#3 { Ports.zero with bytes := bytes }
  | .endSession => .cmd 1#3 Ports.zero
  | .closeSession => .cmd 2#3 Ports.zero
  | .abortWhenDone => .cmd 3#3 Ports.zero
  | .sample t a f p => .cmd 4#3 { Ports.zero with t := t, a := a, f := f, p := p }
  | .cmdRsvd5 => .cmd 5#3 Ports.zero
  | .cmdRsvd6 => .cmd 6#3 Ports.zero
  | .cmdRsvd7 => .cmd 7#3 Ports.zero

end Sys2Proof
end

