-- ==== Sys2Proof/Config.lean ====
section
/-! DEFINITION. What an implementation fixes (00_scope.md R7 to R16) as plain data, its constraints (R213), the spec's
own test profile P0 (95_test_vectors.md section 0), and the free values of what the spec leaves unspecified. -/

namespace Sys2Proof

/-- `SHAPE` as data (R10): the spec's default, the linear law, or a table of the values at `0 .. RAMP_W` (log 15). -/
inductive Shape where
  | linear
  | table (values : List Nat)
deriving DecidableEq, Repr

/-- The parameters of R8 to R16, fixed at construction. `END_CYCLES` is `Params.endCycles`, not a field (R11). -/
structure Params where
  /-- `CELL_LEN` (R8). -/
  cellLen   : Nat
  /-- `RAMP_W` (R9). -/
  rampW     : Nat
  /-- `AMP_ONE` (R10). -/
  ampOne    : Nat
  /-- `SHAPE` (R10). -/
  shape     : Shape
  /-- `PRE_CYCLES` (R11). -/
  preCycles : Nat
  /-- `TQ_DEPTH` (R12). -/
  tqDepth   : Nat
  /-- `PQ_DEPTH` (R12). -/
  pqDepth   : Nat
  /-- `TABLE` (R14): the entries that are not `NONE`, by strictly rising code (log 15). -/
  table     : List (BitVec 7 × BitVec 16)
  /-- `EXTRA_GAP` (R15). -/
  extraGap  : Bool
  /-- `CARRIER` (R16). -/
  carrier   : Freq
deriving DecidableEq, Repr

/-- `CELLS_PER_BAUD = 2` (R7): the parity flag `SWITCH_NEXT` counts them. -/
def Config.cellsPerBaud : Nat := 2

/-- `END_CYCLES = PRE_CYCLES` (R11). -/
def Params.endCycles (p : Params) : Nat := p.preCycles

/-- `CW`: the least width that holds `PRE_CYCLES` (R13). -/
def Params.cycleWidth (p : Params) : Nat := Nat.log2 p.preCycles + 1

/-- Values that never fall. -/
def Config.rising : List Nat → Bool
  | [] => true
  | [_] => true
  | a :: b :: l => decide (a ≤ b) && Config.rising (b :: l)

/-- Codes that strictly rise: the one canonical form of a table. -/
def Config.codesRising : List (BitVec 7 × BitVec 16) → Bool
  | [] => true
  | [_] => true
  | a :: b :: l => decide (a.1.toNat < b.1.toNat) && Config.codesRising (b :: l)

/-- The three properties of `SHAPE` (R10); the linear law has them. -/
def Params.shapeOk (p : Params) : Bool :=
  match p.shape with
  | .linear => true
  | .table l =>
    decide (l.length = p.rampW + 1) && decide (l.head? = some 0) && decide (l.getLast? = some p.ampOne) && Config.rising l

/-- The constraints of R213, with R13's bound on the handle identifiers (R61, U16). The properties of `TABLE`'s patterns
are not among them: the block does not check them (R53, U6). -/
def Params.valid (p : Params) : Bool :=
  decide (2 ≤ p.cellLen) && decide (1 ≤ p.rampW) && decide (p.rampW ≤ p.cellLen / 2) && decide (1 ≤ p.ampOne)
    && p.shapeOk && decide (1 ≤ p.preCycles) && decide (1 ≤ p.tqDepth) && decide (3 ≤ p.pqDepth)
    && decide (p.tqDepth + p.pqDepth + 4 < 2 ^ 8) && Config.codesRising p.table

/-- The five entries recovered from the source's vectors (20_memory.md R55), by rising code: `-`, `A`, `B`, `a`, `t`. -/
def Config.recoveredTable : List (BitVec 7 × BitVec 16) :=
  [(0x2D, 0xD400), (0x41, 0xFA00), (0x42, 0xEB00), (0x61, 0xB000), (0x74, 0xA000)]

/-- Profile P0 of 95_test_vectors.md section 0. DESIGN CHOICE (log 4): the spec leaves these parameters open; only
`State.reset` uses this profile, and every statement is over every valid configuration. Unsafe. -/
def Config.profileP0 : Params :=
  { cellLen := 8, rampW := 2, ampOne := 240, shape := .linear, preCycles := 2, tqDepth := 8, pqDepth := 8,
    table := Config.recoveredTable, extraGap := true, carrier := 1000 }

/-- Free value (U4, log 8): `LAST_CELL` after a RESET step. -/
opaque Config.freeLastCell : Nat → Time

/-- Free value (U5, log 8): the count `n` of `RESULT` after a RESET step. -/
opaque Config.freeResultCount : Nat → Nat

/-- Free value (U5, log 8): the `err` bit of `RESULT` after a RESET step. -/
opaque Config.freeResultErr : Nat → Bool

/-- Free value (U12, log 9): `PROD.h` from a start step until the stage that writes it. -/
opaque Config.freeHandle : Nat → Handle

end Sys2Proof
end

