-- ==== Sys2Proof/Machine/State.lean ====
section
/-! DEFINITION. The state as plain data: every register of 10_state.md, the parameters, and the model's own four fields;
the reasons a step can stop; the state right after reset. -/

namespace Sys2Proof.Machine

/-- `SEG`, the current segment (R20 to R25). `remaining` and `bitIndex` are counts; their ranges are R47 (b). -/
inductive Segment where
  /-- `Off` with its bit `closed` (R22). -/
  | off (closed : Bool)
  /-- `Preamble` (R23). -/
  | preamble (remaining : Nat) (handle : Handle) (exhausted : Bool)
  /-- `Transmit` (R24). -/
  | transmit (unit : Byte) (bitIndex : Nat) (exhausted : Bool)
  /-- `End` (R25). -/
  | ending (remaining : Nat) (handle : Handle) (exhausted : Bool)
deriving DecidableEq, Repr

/-- Stages of a WRITE (R42): `W_PRE`, `W_DATA`, `W_EOM`, `W_WAIT`. -/
inductive WriteStage where
  | pre
  | data
  | eom
  | wait
deriving DecidableEq, Repr

/-- Stages of an ENDSESSION (R42): `E_EOS`, `E_WAIT`. -/
inductive EndStage where
  | eos
  | wait
deriving DecidableEq, Repr

/-- `PROD`, the host operation in flight (R42). -/
inductive Prod where
  | idle
  | write (bytes : List Byte) (idx : Nat) (stage : WriteStage) (h : Handle)
  | ends (stage : EndStage) (h : Handle)
deriving DecidableEq, Repr

/-- `RESULT` (R43): the count, and `err` (`true` is AbortedWrite, R190). -/
structure Result where
  n   : Nat
  err : Bool
deriving DecidableEq, Repr

/-- What the latest step showed outside (R18, R19); the model's own (log 11). -/
inductive Report where
  /-- No step was taken. -/
  | idle
  /-- The step was taken and returned nothing. -/
  | done
  /-- A SAMPLE step returned its triple (R19 a). -/
  | triple (amplitude : Nat) (frequency : Freq) (phase : Bool)
  /-- The step completed a WRITE or an ENDSESSION with this result (R19 b). -/
  | completed (n : Nat) (err : Bool)
  /-- The step raised InvariantViolation and returned no triple (R18, R193). -/
  | faulted
  /-- The step is not enabled; nothing happened (R18). -/
  | notEnabled
deriving DecidableEq, Repr

/-- One turn of the schedule: which agent's step of R6 is offered next, or a change of the input pin (log 1, log 14). -/
inductive Turn where
  /-- HOST applies RESET (R210). -/
  | reset
  /-- HOST offers an operation: opcode and operand ports (R74). -/
  | host (op : BitVec 3) (ports : Ports)
  /-- PRODUCER takes PROD_STEP (R91 to R98). -/
  | producer
  /-- PACKER takes PACK_STEP (R110). -/
  | packer
  /-- WATCH takes DONE_FIRE (R101). -/
  | watch
  /-- HOST drives the input pin `done` (R46). -/
  | donePin (level : Bool)
deriving DecidableEq, Repr

/-- The state of one Engine (10_state.md section 1). -/
structure State where
  /-- The parameters of R8 to R16; no step writes them (R213). -/
  params     : Params
  /-- `CARRIER` (R32). -/
  carrier    : Freq
  /-- `SEG` (R20). -/
  seg        : Segment
  /-- `PHASE` (R28). -/
  phase      : Bool
  /-- `SWITCH_NEXT` (R29). -/
  switchNext : Bool
  /-- `CELL_VALID` (R30). -/
  cellValid  : Bool
  /-- `LAST_CELL` (R30). -/
  lastCell   : Time
  /-- `FALL_EN` (R31). -/
  fallEn     : Bool
  /-- `RISE_EN` (R31). -/
  riseEn     : Bool
  /-- `CANCEL` (R33). -/
  cancel     : Bool
  /-- `FAULT` (R34). -/
  fault      : BitVec 2
  /-- `ACC` (R35). -/
  acc        : Byte
  /-- `FILL` (R36), a count. -/
  fill       : Nat
  /-- `LAST_ZERO` (R37). -/
  lastZero   : Bool
  /-- `TQ` (R38), head first. -/
  tq         : List TokWord
  /-- `PQ` (R39), head first. -/
  pq         : List PuWord
  /-- `NEXT_HANDLE` (R40). -/
  nextHandle : Handle
  /-- `FIRED` (R41): bit `h` is the acknowledgement of handle `h`. -/
  fired      : BitVec 256
  /-- `PROD` (R42). -/
  prod       : Prod
  /-- `RESULT` (R43). -/
  result     : Result
  /-- `ABORT_ARMED` (R44). -/
  abortArmed : Bool
  /-- The input pin `done` (R46, R101). -/
  donePin    : Bool
  /-- The model's own: the turns still to be taken, next first (log 1). -/
  agenda     : List Turn
  /-- The model's own: what the latest step showed outside (log 11). -/
  report     : Report
  /-- The model's own: counts the free values drawn (log 19). -/
  freeCount  : Nat
deriving DecidableEq, Repr

/-- Reasons a step stops with a fault: none. InvariantViolation, the block's one fault, has an entry the spec describes
(R193) and is a next state with `FAULT` set; nobody raises a fault of the model. Safe. -/
inductive Fault where
deriving DecidableEq, Repr

/-- Reasons a step refuses. -/
inductive Refusal where
  /-- Raised by an arm of `exec` whose instruction has no meaning yet; no arm does. Safe. -/
  | notModelled (mnemonic : String)
  /-- Raised by `step` alone: the configuration breaks a constraint of R213; "refuse" is the spec's own treatment
  (U1, U16). Safe. -/
  | invalidConfiguration
deriving DecidableEq, Repr

/-- The state a freshly constructed Engine is in (R210 with R32), for any parameters. `lastCell` and `result` have no
reset value in the spec: DESIGN CHOICE, unsafe (log 6, log 7). The last four fields are an input
or the model's own: DESIGN CHOICE (log 14, log 2, log 11, log 19). -/
def State.construct (p : Params) : State :=
  { params := p, carrier := p.carrier, seg := .off false, phase := false, switchNext := true, cellValid := false,
    lastCell := 0#64, fallEn := false, riseEn := false, cancel := false, fault := 0#2, acc := 0#8, fill := 0, lastZero := false,
    tq := [], pq := [], nextHandle := 0#8, fired := 0#256, prod := .idle, result := { n := 0, err := false },
    abortArmed := false, donePin := false, agenda := [], report := .idle, freeCount := 0 }

/-- The machine right after reset: R210 over profile P0 (log 4). -/
def State.reset : State := State.construct Config.profileP0

end Sys2Proof.Machine
end

