-- ==== Sys2Proof/Machine/Operands.lean ====
section
/-! DEFINITION. The operand forms: the bytes of a WRITE read through TABLE, the bits of a unit, the raster position of a
timestamp, and the shaping function. -/

namespace Sys2Proof.Machine

/-- The 7-bit table index of a byte; a byte of 128 or more has none (R54, D49). -/
def byteCode (b : Byte) : Option (BitVec 7) :=
  if b.getLsbD 7 then none else some (b.extractLsb' 0 7)

/-- `TABLE(c)`: the entry of code `c`, or `NONE` (R14, R54). -/
def tableEntry (table : List (BitVec 7 × BitVec 16)) (c : BitVec 7) : Option (BitVec 16) :=
  match table with
  | [] => none
  | (k, p) :: rest => if k = c then some p else tableEntry rest c

/-- `TableRead(c)` (R17, R50). -/
def tableRead (s : State) (c : BitVec 7) : Option (BitVec 16) := tableEntry s.params.table c

/-- The pattern a byte of a WRITE stands for, if it is representable (R92). -/
def bytePattern (s : State) (b : Byte) : Option (BitVec 16) := (byteCode b).bind (tableRead s)

/-- The bit a Transmit consumes at a boundary tick: `unit[7 - bit_index]`, and 0 once all eight are gone (R153). -/
def unitBit (u : Byte) (k : Nat) : Bool := if k < 8 then u.getLsbD (7 - k) else false

/-- `cell = t div CELL_LEN`, a `TW`-bit value (R172). -/
def cellOf (p : Params) (t : Time) : Time := BitVec.ofNat 64 (t.toNat / p.cellLen)

/-- `pos = t mod CELL_LEN` (R172). -/
def posOf (p : Params) (t : Time) : Nat := t.toNat % p.cellLen

/-- `r = min(pos, CELL_LEN - pos, RAMP_W)` (R173). -/
def rampValue (p : Params) (pos : Nat) : Nat := min (min pos (p.cellLen - pos)) p.rampW

/-- `SHAPE(r)` (R10). -/
def shapeAt (p : Params) (r : Nat) : Nat :=
  match p.shape with
  | .linear => r * p.ampOne / p.rampW
  | .table l => l.getD r 0

end Sys2Proof.Machine
end

