-- ==== Sys2Proof/Machine/Flags.lean ====
section
/-! DEFINITION. Flag computations: the packer's stop and gap tests, the segment's predicates, the views of R45. -/

namespace Sys2Proof.Machine

/-- `stop`: the previous emitted bit and the current bit are both zero (R112). -/
def stopAfter (b lastZero : Bool) : Bool := !b && lastZero

/-- `GAP_AFTER(u)` (R116). -/
def gapAfter (extraGap : Bool) (u : Byte) : Bool := extraGap && (u.extractLsb' 0 2 == 0#2) && (u != 0#8)

/-- `need_next(SEG)` (R26). -/
def needNext : Segment → Bool
  | .off closed => !closed
  | .preamble _ _ exhausted => exhausted
  | .transmit _ _ exhausted => exhausted
  | .ending _ _ exhausted => exhausted

/-- The segments that pop a word when they ask for the next block: all but End (R130, R144). -/
def polls : Segment → Bool
  | .off closed => !closed
  | .preamble _ _ exhausted => exhausted
  | .transmit _ _ exhausted => exhausted
  | .ending _ _ _ => false

/-- `will_flip(SEG)` (R158). -/
def willFlip : Segment → Bool
  | .off _ => false
  | .preamble _ _ _ => true
  | .transmit u k _ => !unitBit u k
  | .ending r _ _ => decide (0 < r)

/-- `SEG.kind` (R21). -/
def segKind : Segment → BitVec 2
  | .off _ => 0#2
  | .preamble _ _ _ => 1#2
  | .transmit _ _ _ => 2#2
  | .ending _ _ _ => 3#2

/-- `SEG.closed`, 0 unless the kind is Off (R45). -/
def segClosed : Segment → Bool
  | .off closed => closed
  | .preamble _ _ _ => false
  | .transmit _ _ _ => false
  | .ending _ _ _ => false

/-- `in_b`: the current cell is the boundary cell (R29). -/
def State.inBoundaryCell (s : State) : Bool := s.cellValid && !s.switchNext

/-- `STATUS` (R45): bit 7 `SWITCH_NEXT`, 6 `PHASE`, 5 `ABORT_ARMED`, 4 `PROD ≠ IDLE`, 3 `CANCEL`, 2 `closed`, 1:0 kind. -/
def State.statusView (s : State) : BitVec 8 :=
  BitVec.ofBool s.switchNext ++ (BitVec.ofBool s.phase ++ (BitVec.ofBool s.abortArmed ++
    (BitVec.ofBool (s.prod != .idle) ++ (BitVec.ofBool s.cancel ++ (BitVec.ofBool (segClosed s.seg) ++ segKind s.seg)))))

/-- `RESULT` as one number (R45): `err` in bit 0, `n` above it. -/
def State.resultView (s : State) : Nat := 2 * s.result.n + s.result.err.toNat

/-- The register list of R45 by number; a name for reference, no operation reads it. -/
def State.csr (s : State) (number : BitVec 2) : Nat :=
  match number.toNat with
  | 0 => s.carrier.toNat
  | 1 => s.statusView.toNat
  | 2 => s.fault.toNat
  | _ => s.resultView

end Sys2Proof.Machine
end

