-- ==== Sys2Proof/Machine/Ops.lean ====
section
/-! DEFINITION. The named operations over queues, handles and registers, fault entry, completion of an operation, RESET. -/

namespace Sys2Proof.Machine

/-- Say what the step showed outside (log 11). -/
def State.note (s : State) (r : Report) : State := { s with report := r }

/-- A step that is not enabled: nothing changes (R18, log 3). -/
def State.notEnabled (s : State) : State := s.note .notEnabled

/-- `free(TQ)` (R17). -/
def State.tqFree (s : State) : Nat := s.params.tqDepth - s.tq.length

/-- `free(PQ)` (R17). -/
def State.pqFree (s : State) : Nat := s.params.pqDepth - s.pq.length

/-- `push(TQ, w)` (R17, R56). -/
def State.pushTq (s : State) (w : TokWord) : State := { s with tq := s.tq ++ [w] }

/-- `push(PQ, w)` (R17, R57). -/
def State.pushPq (s : State) (w : PuWord) : State := { s with pq := s.pq ++ [w] }

/-- The removal half of `tryPop(TQ)` (R17, R56): the head goes. -/
def State.popTq (s : State) : State := { s with tq := s.tq.tail }

/-- The removal half of `tryPop(PQ)` (R17, R57): the head goes. -/
def State.popPq (s : State) : State := { s with pq := s.pq.tail }

/-- The one set bit of handle `h` in `FIRED` (R41). -/
def handleBit (h : Handle) : BitVec 256 := 1#256 <<< h.toNat

/-- `fired(h)` (R62). -/
def State.isFired (s : State) (h : Handle) : Bool := s.fired.getLsbD h.toNat

/-- `fire(h)` (R62). -/
def State.fire (s : State) (h : Handle) : State := { s with fired := s.fired ||| handleBit h }

/-- The state after `alloc()`, whose answer is `s.nextHandle` (R61). -/
def State.alloc (s : State) : State :=
  { s with fired := s.fired &&& ~~~(handleBit s.nextHandle), nextHandle := s.nextHandle + 1#8 }

/-- `SEG <- g` (R20). -/
def State.setSeg (s : State) (g : Segment) : State := { s with seg := g }

/-- `PROD <- p` (R42). -/
def State.setProd (s : State) (p : Prod) : State := { s with prod := p }

/-- `complete(n, err)` (R17, R43): the operation in flight ends with that result. -/
def State.complete (s : State) (n : Nat) (err : Bool) : State :=
  { s with result := { n := n, err := err }, prod := .idle, report := .completed n err }

/-- Fault entry, `raise InvariantViolation(code)` (R193): the code goes to `FAULT`, nothing else is saved or changed; the
step returns no triple. There is no return from it but RESET (R200). -/
def State.raise (s : State) (code : BitVec 2) : State := { s with fault := code, report := .faulted }

/-- `RESET` (R210): every register at its reset value; `LAST_CELL` and `RESULT` are unspecified after it, so free values
(U4, U5, log 8). `CARRIER` and the parameters are kept, the pin is an input, the agenda is the environment's. -/
def State.applyReset (s : State) : State :=
  { s with
    seg := .off false, phase := false, switchNext := true, cellValid := false,
    lastCell := Config.freeLastCell s.freeCount, fallEn := false, riseEn := false, cancel := false, fault := 0#2,
    acc := 0#8, fill := 0, lastZero := false, tq := [], pq := [], nextHandle := 0#8, fired := 0#256, prod := .idle,
    result := { n := Config.freeResultCount s.freeCount, err := Config.freeResultErr s.freeCount },
    abortArmed := false, report := .done, freeCount := s.freeCount + 1 }

/-- The condition of PACK_STEP but for the token itself (R6, R110). -/
def State.packReady (s : State) : Bool := decide (s.fault = 0#2) && !s.cancel && decide (3 ≤ s.pqFree)

/-- The condition under which SEQ_ADVANCE pops a word (R130, R197). -/
def State.seqReady (s : State) : Bool := decide (s.fault = 0#2) && !s.cancel && polls s.seg

/-- The condition of the start steps of WRITE and ENDSESSION (R6, R102). -/
def State.startReady (s : State) : Bool := decide (s.fault = 0#2) && decide (s.prod = .idle)

/-- A PACK_STEP on the token at the head of `TQ`: if enabled, the token leaves the queue and `act` is done (R110). -/
def packing (s : State) (act : State → State) : Host.Outcome State Fault Refusal :=
  if s.packReady then .next (act (s.popTq.note .done)) else .next s.notEnabled

/-- SEQ_ADVANCE on the word at the head of `PQ`: if the segment polls, the word leaves the queue and `act` is done (R130);
if it does not poll the word stays and nothing changes (R141, R144). -/
def advancing (s : State) (act : State → State) : Host.Outcome State Fault Refusal :=
  if s.seqReady then .next (act (s.popPq.note .done)) else .next s.notEnabled

/-- A host operation whose step is enabled while `FAULT = 0` (R6). -/
def unlessFaulted (s : State) (act : State → State) : Host.Outcome State Fault Refusal :=
  if s.fault = 0#2 then .next (act (s.note .done)) else .next s.notEnabled

end Sys2Proof.Machine
end

