-- ==== Sys2Proof/Machine/Packer.lean ====
section
/-! DEFINITION. The Bit Packer (41_bit_packer.md): TOK.DATA, TOK.PRE, TOK.EOM, TOK.EOS, TOK.RSVD. -/

namespace Sys2Proof.Machine

/-- `SHIFT_IN(b)` (R112): the state after it; whether the pattern stops is `stopAfter b s.lastZero`. -/
def shiftIn (b : Bool) (s : State) : State :=
  let acc := (s.acc <<< 1) ||| (BitVec.ofBool b).zeroExtend 8
  if s.fill + 1 = 8 then { s.pushPq (puWord 0#3 acc) with acc := 0#8, fill := 0, lastZero := !b }
  else { s with acc := acc, fill := s.fill + 1, lastZero := !b }

/-- The loop of `PACK_DATA` over the bits `p[n-1] .. p[0]`, left at the first stop (R111). -/
def packBits (p : BitVec 16) : Nat → State → State
  | 0, s => s
  | n + 1, s =>
    if stopAfter (p.getLsbD n) s.lastZero then shiftIn (p.getLsbD n) s else packBits p n (shiftIn (p.getLsbD n) s)

/-- `PACK_DATA(p)` (R111). -/
def packData (p : BitVec 16) (s : State) : State := packBits p 16 s

/-- The padded unit `(ACC << (8 - FILL))[7:0]` (R115). -/
def paddedUnit (s : State) : Byte := s.acc <<< (8 - s.fill)

/-- `FLUSH()` (R115, R116). -/
def flush (s : State) : State :=
  if s.fill = 0 then s
  else
    let u := paddedUnit s
    let s1 := s.pushPq (puWord 0#3 u)
    let s2 := if gapAfter s.params.extraGap u then s1.pushPq (puWord 0#3 0#8) else s1
    { s2 with acc := 0#8, fill := 0 }

/-- Any non-data token: flush, then pass the word through as `{tag, payload[7:0]}` (R113, R114, R117, R118). -/
def packMarker (g : Tag) (d : Byte) (s : State) : State := (flush s).pushPq (puWord g d)

/-- `TOK.DATA` (R111). -/
def execTokData (p : BitVec 16) (s : State) : Host.Outcome State Fault Refusal := packing s (packData p)

/-- `TOK.PRE` (R113). -/
def execTokPre (h : Handle) (s : State) : Host.Outcome State Fault Refusal := packing s (packMarker 1#3 h)

/-- `TOK.EOM` (R114). -/
def execTokEom (h : Handle) (s : State) : Host.Outcome State Fault Refusal := packing s (packMarker 2#3 h)

/-- `TOK.EOS` (R117). -/
def execTokEos (h : Handle) (s : State) : Host.Outcome State Fault Refusal := packing s (packMarker 3#3 h)

/-- `TOK` with a reserved tag (R118): the packer raises nothing. -/
def execTokRsvd (g : Tag) (d : Byte) (s : State) : Host.Outcome State Fault Refusal := packing s (packMarker g d)

end Sys2Proof.Machine
end

