-- ==== Sys2Proof/Machine/Producer.lean ====
section
/-! DEFINITION. The Token Producer and the host operations (40_token_producer.md): WRITE, ENDSESSION, CLOSESESSION,
ABORTWHENDONE, the reserved opcodes; PROD_STEP; DONE_FIRE. -/

namespace Sys2Proof.Machine

/-- A start step (R90, R96): with `CANCEL = 1` the operation fails at once, otherwise it is in flight. `PROD.h` is
unspecified until the stage that writes it (R90, U12): `op` is given a free value (log 9). -/
def starting (s : State) (op : Handle → Prod) : Host.Outcome State Fault Refusal :=
  if s.startReady then
    if s.cancel then .next (s.complete 0 true)
    else .next { (s.setProd (op (Config.freeHandle s.freeCount))).note .done with freeCount := s.freeCount + 1 }
  else .next s.notEnabled

/-- `WRITE(bytes)` (R90). -/
def execWrite (bytes : List Byte) (s : State) : Host.Outcome State Fault Refusal := starting s (.write bytes 0 .pre)

/-- `ENDSESSION` (R96). -/
def execEndSession (s : State) : Host.Outcome State Fault Refusal := starting s (.ends .eos)

/-- `CANCEL <- 1` (R99, R101). -/
def setCancel (s : State) : State := { s with cancel := true }

/-- `CLOSESESSION` (R99). -/
def execCloseSession (s : State) : Host.Outcome State Fault Refusal := unlessFaulted s setCancel

/-- `ABORT_ARMED <- 1` (R100). -/
def setArmed (s : State) : State := { s with abortArmed := true }

/-- `ABORTWHENDONE` (R100). -/
def execAbortWhenDone (s : State) : Host.Outcome State Fault Refusal := unlessFaulted s setArmed

/-- `CMD` opcode 5 (R82): not accepted, no step is taken and no state changes. -/
def execCmdRsvd5 (s : State) : Host.Outcome State Fault Refusal := .next s.notEnabled

/-- `CMD` opcode 6 (R82). -/
def execCmdRsvd6 (s : State) : Host.Outcome State Fault Refusal := .next s.notEnabled

/-- `CMD` opcode 7 (R82). -/
def execCmdRsvd7 (s : State) : Host.Outcome State Fault Refusal := .next s.notEnabled

/-- Allocate a handle, push its marker with tag `g`, go on to `next`, which gets the handle (R91, R93, R97); stuck while
`TQ` is full. -/
def pushMarker (s : State) (g : Tag) (next : Handle → Prod) : State :=
  if 1 ≤ s.tqFree then
    (((s.alloc.pushTq (tokMarker g s.nextHandle)).setProd (next s.nextHandle)).note .done)
  else s.notEnabled

/-- Stage `W_DATA` (R92): the list is at its end, or the byte is skipped, or its data token is pushed when there is room. -/
def writeData (s : State) (bytes : List Byte) (idx : Nat) (h : Handle) : State :=
  match bytes[idx]? with
  | none => (s.setProd (.write bytes idx .eom h)).note .done
  | some b =>
    match bytePattern s b with
    | none => (s.setProd (.write bytes (idx + 1) .data h)).note .done
    | some p =>
      if 1 ≤ s.tqFree then
        ((s.pushTq (tokDataWord p)).setProd (.write bytes (idx + 1) .data h)).note .done
      else s.notEnabled

/-- One stage of a WRITE with `CANCEL = 0` (R91 to R94). -/
def writeStage (s : State) (bytes : List Byte) (idx : Nat) (stage : WriteStage) (h : Handle) : State :=
  match stage with
  | .pre => pushMarker s 1#3 (fun _ => .write bytes idx .data h)
  | .data => writeData s bytes idx h
  | .eom => pushMarker s 2#3 (.write bytes idx .wait)
  | .wait => if s.isFired h then s.complete bytes.length false else s.notEnabled

/-- One stage of an ENDSESSION with `CANCEL = 0` (R97, R98). -/
def endStage (s : State) (stage : EndStage) (h : Handle) : State :=
  match stage with
  | .eos => pushMarker s 3#3 (.ends .wait)
  | .wait => if s.isFired h then s.complete 0 false else s.notEnabled

/-- `PROD_STEP` (R91 to R98): `CANCEL` is looked at first (R95, R198), then the stage's own action. -/
def prodStep (s : State) : State :=
  if s.fault = 0#2 then
    match s.prod with
    | .idle => s.notEnabled
    | .write bytes idx stage h => if s.cancel then s.complete idx true else writeStage s bytes idx stage h
    | .ends stage h => if s.cancel then s.complete 0 true else endStage s stage h
  else s.notEnabled

/-- `DONE_FIRE` (R101). -/
def doneFire (s : State) : State :=
  if s.fault = 0#2 ∧ s.abortArmed = true ∧ s.donePin = true ∧ s.cancel = false then (setCancel s).note .done
  else s.notEnabled

end Sys2Proof.Machine
end

