-- ==== Sys2Proof/Machine/Sequencer.lean ====
section
/-! DEFINITION. The Segment Sequencer (42_segment_sequencer.md): PU.UNIT, PU.PRE, PU.EOM, PU.EOS, PU.RSVD, and the ticks. -/

namespace Sys2Proof.Machine

/-- `PU_UNIT(d)`: an open segment loads the unit (R133), Off faults with code 2 (R142). End never pops (R144). -/
def seqUnit (d : Byte) (s : State) : State :=
  match s.seg with
  | .off _ => s.raise 2#2
  | .preamble _ _ _ => s.setSeg (.transmit d 0 false)
  | .transmit _ _ _ => s.setSeg (.transmit d 0 false)
  | .ending _ _ _ => s

/-- `PU_PRE(d)`: Off opens the Preamble (R135); an open segment acknowledges the marker (R136, R137). -/
def seqPre (d : Handle) (s : State) : State :=
  match s.seg with
  | .off _ => s.setSeg (.preamble s.params.preCycles d false)
  | .preamble _ _ _ => s.fire d
  | .transmit _ _ _ => s.fire d
  | .ending _ _ _ => s

/-- `PU_EOM(d)`: the marker is acknowledged, the segment stays (R138). -/
def seqEom (d : Handle) (s : State) : State := s.fire d

/-- `PU_EOS(d)`: an open segment goes to End (R139); Off acknowledges and closes (R140). -/
def seqEos (d : Handle) (s : State) : State :=
  match s.seg with
  | .off _ => (s.fire d).setSeg (.off true)
  | .preamble _ _ _ => s.setSeg (.ending s.params.endCycles d false)
  | .transmit _ _ _ => s.setSeg (.ending s.params.endCycles d false)
  | .ending _ _ _ => s

/-- A reserved tag in any polling segment (R134); neither the tag nor the data is kept (R192). -/
def seqRsvd (s : State) : State := s.raise 1#2

/-- `PU.UNIT` (R133, R142). -/
def execPuUnit (u : Byte) (s : State) : Host.Outcome State Fault Refusal := advancing s (seqUnit u)

/-- `PU.PRE` (R135 to R137). -/
def execPuPre (h : Handle) (s : State) : Host.Outcome State Fault Refusal := advancing s (seqPre h)

/-- `PU.EOM` (R138). -/
def execPuEom (h : Handle) (s : State) : Host.Outcome State Fault Refusal := advancing s (seqEom h)

/-- `PU.EOS` (R139, R140). -/
def execPuEos (h : Handle) (s : State) : Host.Outcome State Fault Refusal := advancing s (seqEos h)

/-- `PU` with a reserved tag (R134). -/
def execPuRsvd (s : State) : Host.Outcome State Fault Refusal := advancing s seqRsvd

/-- What SEQ_ADVANCE does with the decoded word it popped (R130); the rows of the other two formats never come from `PQ`. -/
def seqDispatch (i : Instr) (s : State) : State :=
  match i with
  | .puUnit u => seqUnit u s
  | .puPre h => seqPre h s
  | .puEom h => seqEom h s
  | .puEos h => seqEos h s
  | .puRsvd _ _ => seqRsvd s
  | .tokData _ | .tokPre _ | .tokEom _ | .tokEos _ | .tokRsvd _ _ => s
  | .write _ | .endSession | .closeSession | .abortWhenDone | .sample _ _ _ _ => s
  | .cmdRsvd5 | .cmdRsvd6 | .cmdRsvd7 => s

/-- `SEQ_ADVANCE()` for a segment that asks for the next block (R130): an exhausted End closes without a pop (R143), an
empty queue leaves everything as it is (R132), otherwise one word is popped and acted on. -/
def seqAdvance (s : State) : State :=
  match s.seg, s.pq with
  | .ending _ _ _, _ => s.setSeg (.off true)
  | _, [] => s
  | _, w :: _ => seqDispatch (decodePu w) s.popPq

/-- Part 1 of a SAMPLE step (R176): the cancellation pin (R131), or the lazy advance (R130), or nothing. -/
def sequencerPart (s : State) : State :=
  if s.cancel then s.setSeg (.off true) else if needNext s.seg then seqAdvance s else s

/-- `SEG_BTICK()`: the segment after a boundary tick (R151, R153, R156, R157). The tick's flip is `segFlip`. -/
def segTick (s : State) : State :=
  match s.seg with
  | .off _ => s
  | .preamble r h e =>
    if r - 1 = 0 ∨ s.isFired h then (s.fire h).setSeg (.preamble (r - 1) h true) else s.setSeg (.preamble (r - 1) h e)
  | .transmit u k e =>
    let k' := if k < 8 then k + 1 else k
    s.setSeg (.transmit u k' (if 8 ≤ k' ∨ u = 0#8 then true else e))
  | .ending r h e =>
    if r = 0 then s
    else if r - 1 = 0 then (s.fire h).setSeg (.ending (r - 1) h true)
    else s.setSeg (.ending (r - 1) h e)

/-- The `flip` that `SEG_BTICK()` returns (R151, R153, R156, R157). -/
def segFlip : Segment → Bool
  | .off _ => false
  | .preamble _ _ _ => true
  | .transmit u k _ => !unitBit u k
  | .ending r _ _ => decide (0 < r)

/-- `BOUNDARY_TICK()` (R150). -/
def boundaryTick (s : State) : State :=
  { segTick s with phase := xor s.phase (segFlip s.seg), riseEn := s.fallEn || segFlip s.seg }

/-- `MID_TICK()` (R159). -/
def midTick (s : State) : State := { s with fallEn := willFlip s.seg }

end Sys2Proof.Machine
end

