-- ==== Sys2Proof/Machine/Synth.lean ====
section
/-! DEFINITION. The Sample Synthesizer (43_sample_synthesizer.md): SAMPLE. -/

namespace Sys2Proof.Machine

/-- Whether a SAMPLE step at `t` performs a tick (R174). -/
def State.ticksAt (s : State) (t : Time) : Bool := !s.cellValid || cellOf s.params t != s.lastCell

/-- Part 3 of a SAMPLE step (R176): at most one tick, alternately a boundary tick and a mid tick (R174). -/
def rasterTick (t : Time) (s : State) : State :=
  if s.ticksAt t then
    let s1 := { s with lastCell := cellOf s.params t, cellValid := true, switchNext := !s.switchNext }
    if s.switchNext then boundaryTick s1 else midTick s1
  else s

/-- `dip`: the amplitude is inside a rise or fall window that is enabled (R177). -/
def State.dips (s : State) (pos : Nat) : Bool :=
  (!s.switchNext && s.riseEn && decide (pos < s.params.rampW))
    || (s.switchNext && s.fallEn && decide (s.params.cellLen - s.params.rampW ≤ pos))

/-- `base` (R177). -/
def State.baseAmplitude (s : State) (pos : Nat) : Nat :=
  if s.dips pos then shapeAt s.params (rampValue s.params pos) else s.params.ampOne

/-- `GAIN(SEG, base)` (R178, R179). -/
def gain (p : Params) (g : Segment) (base : Nat) : Nat :=
  match g with
  | .off _ => 0
  | .preamble r _ _ => base * (p.preCycles - r) / p.preCycles
  | .transmit _ _ _ => base
  | .ending r _ _ => base * r / p.endCycles

/-- `AMPLITUDE(pos, r)` (R177). -/
def State.amplitude (s : State) (pos : Nat) : Nat := gain s.params s.seg (s.baseAmplitude pos)

/-- Parts 2 to 4 of a SAMPLE step (R176): the raster, the tick, the output triple (R180, R181). -/
def samplePart (t : Time) (s : State) : State :=
  let s1 := rasterTick t s
  s1.note (.triple (s1.amplitude (posOf s1.params t)) s1.carrier s1.phase)

/-- One SAMPLE step (R176): part 1, and unless it raised InvariantViolation, parts 2 to 4. -/
def sampleStep (t : Time) (s : State) : State :=
  let s1 := sequencerPart s
  if s1.fault = 0#2 then samplePart t s1 else s1

/-- `SAMPLE(t, a, f, p)` (R170); `a`, `f` and `p` are read by no rule (R171). -/
def execSample (t : Time) (s : State) : Host.Outcome State Fault Refusal := unlessFaulted s (sampleStep t)

end Sys2Proof.Machine
end

