-- ==== Sys2Proof/Machine/Dispatch.lean ====
section
/-! DEFINITION. One arm per instruction of spec/opcode_table.json. -/

namespace Sys2Proof.Machine

/-- The meaning of each instruction. A `TOK` or `PU` word stands at the head of its queue and leaves it when it is
accepted (log 17). -/
def exec (i : Instr) (s : State) : Host.Outcome State Fault Refusal :=
  match i with
  | .tokData p => Sys2Proof.Machine.execTokData p s
  | .tokPre h => Sys2Proof.Machine.execTokPre h s
  | .tokEom h => Sys2Proof.Machine.execTokEom h s
  | .tokEos h => Sys2Proof.Machine.execTokEos h s
  | .tokRsvd g d => Sys2Proof.Machine.execTokRsvd g d s
  | .puUnit u => Sys2Proof.Machine.execPuUnit u s
  | .puPre h => Sys2Proof.Machine.execPuPre h s
  | .puEom h => Sys2Proof.Machine.execPuEom h s
  | .puEos h => Sys2Proof.Machine.execPuEos h s
  | .puRsvd _ _ => Sys2Proof.Machine.execPuRsvd s
  | .write bytes => Sys2Proof.Machine.execWrite bytes s
  | .endSession => Sys2Proof.Machine.execEndSession s
  | .closeSession => Sys2Proof.Machine.execCloseSession s
  | .abortWhenDone => Sys2Proof.Machine.execAbortWhenDone s
  | .sample t _ _ _ => Sys2Proof.Machine.execSample t s
  | .cmdRsvd5 => Sys2Proof.Machine.execCmdRsvd5 s
  | .cmdRsvd6 => Sys2Proof.Machine.execCmdRsvd6 s
  | .cmdRsvd7 => Sys2Proof.Machine.execCmdRsvd7 s

end Sys2Proof.Machine
end

