-- ==== Sys2Proof/Machine/Fetch.lean ====
section
/-! DEFINITION. Where the next instruction comes from, and how a given word is put there. -/

namespace Sys2Proof.Machine

/-- The head of `TQ`, decoded: what a PACK_STEP will run (R110). -/
def fetchToken (s : State) : Option Instr := s.tq.head?.map decodeTok

/-- The head of `PQ`, decoded: what SEQ_ADVANCE will run when the segment polls (R130). -/
def fetchUnit (s : State) : Option Instr := s.pq.head?.map decodePu

/-- A state whose next turn is `turn` and in which no fault stands. -/
def offerNext (s : State) (turn : Turn) : State := { s with agenda := turn :: s.agenda, fault := 0#2 }

/-- The word put where the next step fetches it (log 18): a token at the head of `TQ` with a PACK_STEP enabled, a packed
unit at the head of `PQ` with a SAMPLE whose segment polls, an opcode on the host's port. -/
def placeWord (s : State) (word : Word) : State :=
  match word with
  | .tok w =>
    { offerNext s .packer with
      cancel := false, tq := w :: s.tq.tail, pq := if 3 ≤ s.pqFree then s.pq else [] }
  | .pu w =>
    { offerNext s (.host 4#3 Ports.zero) with
      cancel := false, seg := if polls s.seg then s.seg else .off false, pq := w :: s.pq.tail }
  | .cmd op ports => offerNext s (.host op ports)

end Sys2Proof.Machine
end

