-- ==== Sys2Proof/Machine/Step.lean ====
section
/-! DEFINITION. One step of the machine: the turn at the head of the agenda is offered and, if enabled, taken (R6). -/

namespace Sys2Proof.Machine

/-- The step a turn offers, on the state with that turn taken off the agenda (R6). -/
def takeTurn (turn : Turn) (s : State) : Host.Outcome State Fault Refusal :=
  match turn with
  | .reset => .next s.applyReset
  | .host op ports => exec (decodeCmd op ports) s
  | .producer => .next (prodStep s)
  | .packer =>
    match fetchToken s with
    | some i => exec i s
    | none => .next s.notEnabled
  | .watch => .next (doneFire s)
  | .donePin level => .next { s with donePin := level, report := .idle }

/-- One step. A configuration outside R213 is refused (U1, U16); with an empty agenda no agent moves (log 2). -/
def step (s : State) : Host.Outcome State Fault Refusal :=
  if s.params.valid then
    match s.agenda with
    | [] => .next (s.note .idle)
    | turn :: rest => takeTurn turn { s with agenda := rest }
  else .refused .invalidConfiguration

/-- The host's placing of an instruction where the next step runs it; a number that is no word changes nothing. -/
def State.withFetchWord (s : State) (nbits w : Nat) : State :=
  match readWord nbits w with
  | .ok word => placeWord s word
  | .error _ => s

end Sys2Proof.Machine
end

