-- ==== Sys2Proof/Safety.lean ====
section
/-! DEFINITION. The terms claims use: the invariants of 10_state.md R47, the wiring that keeps InvariantViolation away
(R81, R142), bit streams (R58, R112, R120), the laws of amplitude and
flip (R158, R173, R177 to R179), the order of segments (R161), iterated steps. -/

namespace Sys2Proof.Machine

/-! ### The invariant of R47 -/

/-- R47 (b): the ranges of the segment's counters. -/
def segInRange (p : Params) : Segment → Bool
  | .off _ => true
  | .preamble r _ _ => decide (r ≤ p.preCycles)
  | .transmit _ k _ => decide (k ≤ 8)
  | .ending r _ _ => decide (r ≤ p.endCycles)

/-- R47 (a): between steps `FILL ≤ 7` and `ACC[7:FILL] = 0`. -/
abbrev State.PackerOk (s : State) : Prop := s.fill ≤ 7 ∧ s.acc.toNat < 2 ^ s.fill

/-- R47 (a) to (c), with the fault codes of R34 and the fixed carrier of R32. -/
abbrev State.Inv (s : State) : Prop :=
  s.PackerOk ∧ segInRange s.params s.seg = true ∧ s.tq.length ≤ s.params.tqDepth ∧ s.pq.length ≤ s.params.pqDepth ∧
    s.fault ≠ 3#2 ∧ s.carrier = s.params.carrier

/-! ### The wiring: why no fault arises from host operations -/

/-- No word in a queue carries a reserved tag (R81). -/
abbrev State.NoReservedTag (s : State) : Prop :=
  (∀ w ∈ s.tq, (tokTag w).toNat < 4) ∧ (∀ w ∈ s.pq, (puTag w).toNat < 4)

/-- In this row of tags every data tag (0) stands behind a preamble marker (1) or an end-of-session marker (3). -/
def opensFirst : List Tag → Bool
  | [] => true
  | g :: rest => if g = 0#3 then false else if g = 1#3 ∨ g = 3#3 then true else opensFirst rest

/-- Whether the operation in flight may still push data tokens without a preamble marker of its own. -/
def inDataStage : Prod → Bool
  | .idle => false
  | .write _ _ stage _ => stage == .data
  | .ends _ _ => false

/-- The tag of the bits held in the accumulator, if it holds any. -/
def heldTags (fill : Nat) : List Tag := if fill = 0 then [] else [0#3]

/-- The tag of the data tokens the operation in flight may still push. -/
def pendingTags (p : Prod) : List Tag := if inDataStage p then [0#3] else []

/-- The tags on their way to the sequencer, in order: `PQ`, bits held in the accumulator, `TQ`, data yet to be pushed. -/
def State.tagsAhead (s : State) : List Tag :=
  s.pq.map puTag ++ (heldTags s.fill ++ (s.tq.map tokTag ++ pendingTags s.prod))

/-- The pipeline is wired as the producer wires it: no reserved tag anywhere, and while `SEG` is the idle `Off` every
unit on its way stands behind the marker that ends it. -/
abbrev State.Wired (s : State) : Prop :=
  s.NoReservedTag ∧ (s.seg = .off false → opensFirst s.tagsAhead = true)

/-! ### Bit streams, most significant bit first (R58) -/

/-- Bits `n-1` down to `0` of a word. -/
def bitsDown {m : Nat} : Nat → BitVec m → List Bool
  | 0, _ => []
  | n + 1, w => w.getLsbD n :: bitsDown n w

/-- Run-shortening (R112): the bits up to and including the first zero whose predecessor is a zero; `lz` says whether
the bit before the first was a zero. -/
def cutBits (lz : Bool) : List Bool → List Bool
  | [] => []
  | b :: bs => if !b && lz then [b] else b :: cutBits (!b) bs

/-- `LAST_ZERO` after these bits (R112). -/
def lastZeroAfter (lz : Bool) : List Bool → Bool
  | [] => lz
  | b :: bs => lastZeroAfter (!b) bs

/-- The sparse-zero property on the bits of a pattern (R53): the last bit is a one and no two zeros are adjacent. -/
def sparseZero : List Bool → Bool
  | [] => false
  | [b] => b
  | a :: b :: bs => (a || b) && sparseZero (b :: bs)

/-! ### The laws of the outputs, written from the spec's formulas and not from the machine's functions -/

/-- The amplitude at position `pos` of a cell, from R173 (ramp), R10 (SHAPE: the linear law or the supplied table), R177
(dip) and R178, R179 with R11 (gain). `inB`, `rise`, `fall` are `in_b`, `RISE_EN` and `FALL_EN` after the step's tick. -/
def amplitudeLaw (p : Params) (g : Segment) (inB rise fall : Bool) (pos : Nat) : Nat :=
  let r := min pos (min (p.cellLen - pos) p.rampW)
  let shape := match p.shape with
    | .linear => r * p.ampOne / p.rampW
    | .table values => values.getD r 0
  let dip := (inB = true ∧ rise = true ∧ pos < p.rampW) ∨ (inB = false ∧ fall = true ∧ p.cellLen - p.rampW ≤ pos)
  let base := if dip then shape else p.ampOne
  match g with
  | .off _ => 0
  | .preamble remaining _ _ => base * (p.preCycles - remaining) / p.preCycles
  | .transmit _ _ _ => base
  | .ending remaining _ _ => base * remaining / p.preCycles

/-- The flip of the next boundary tick, from the table of R158. -/
def flipLaw : Segment → Bool
  | .off _ => false
  | .preamble _ _ _ => true
  | .transmit u k _ => if k < 8 then !u.getLsbD (7 - k) else true
  | .ending remaining _ _ => decide (0 < remaining)

/-! ### Order of segments (R161) -/

/-- `Off(0)`, then `Preamble`, then `Transmit`, then `End`, then `Off(1)`. -/
def segOrder : Segment → Nat
  | .off false => 0
  | .preamble _ _ _ => 1
  | .transmit _ _ _ => 2
  | .ending _ _ _ => 3
  | .off true => 4

/-! ### Tokens of a WRITE and iterated steps -/

/-- The data tokens of these bytes, in order, unrepresentable bytes skipped (R92, R103). -/
def dataTokens (s : State) (bytes : List Byte) : List TokWord := (bytes.filterMap (bytePattern s)).map tokDataWord

/-- `n` PROD_STEPs with no other step between. -/
def prodSteps : Nat → State → State
  | 0, s => s
  | n + 1, s => prodSteps n (prodStep s)

/-- `n` boundary ticks with nothing between. -/
def boundaryTicks : Nat → State → State
  | 0, s => s
  | n + 1, s => boundaryTicks n (boundaryTick s)

/-- `FIRED` after `fire(h)`: bit `h` is set, every other bit keeps its value (R62). -/
def firesOnly (before after : BitVec 256) (h : Handle) : Prop :=
  ∀ g : Handle, after.getLsbD g.toNat = (before.getLsbD g.toNat || decide (g = h))

/-- `FIRED` after `alloc()` has handed out `h`: bit `h` is cleared, every other bit keeps its value (R61). -/
def clearsOnly (before after : BitVec 256) (h : Handle) : Prop :=
  ∀ g : Handle, after.getLsbD g.toNat = (before.getLsbD g.toNat && !decide (g = h))

/-- The handle the operation in flight waits on: stages `W_WAIT` and `E_WAIT` (R94, R98). -/
def waitsOn : Prod → Option Handle
  | .idle => none
  | .write _ _ stage h => if stage = .wait then some h else none
  | .ends stage h => if stage = .wait then some h else none

/-- Whether the stage in hand pushes a token and so needs room in `TQ` (R91, R92, R93, R97). -/
def State.wantsRoom (s : State) : Bool :=
  match s.prod with
  | .idle => false
  | .write _ _ .pre _ => true
  | .write bytes idx .data _ => (bytes[idx]?.bind (bytePattern s)).isSome
  | .write _ _ .eom _ => true
  | .write _ _ .wait _ => false
  | .ends .eos _ => true
  | .ends .wait _ => false

/-- An exhausted Preamble or an exhausted Transmit (R133, R136, R137, R139). -/
def openExhausted : Segment → Bool
  | .off _ => false
  | .preamble _ _ exhausted => exhausted
  | .transmit _ _ exhausted => exhausted
  | .ending _ _ _ => false

/-- Part 1 of a SAMPLE step finds nothing to do: no cancellation, and no block asked for or none queued (R130, R132). -/
abbrev State.QuietSequencer (s : State) : Prop :=
  s.cancel = false ∧ (needNext s.seg = false ∨ polls s.seg = true ∧ s.pq = [])

/-- The next turn is not RESET. -/
abbrev State.NoResetNext (s : State) : Prop := s.agenda.head? ≠ some .reset

end Sys2Proof.Machine
end

