-- ==== Sys2Proof/Certificates/Slice0/Obligations.lean ====
section
/-! DEFINITION. The statements for the provers: what the spec's rules say the block does. -/

open Sys2Proof Sys2Proof.Machine

/-! ### Words -/

/-- Decode and encode agree (30_encoding.md sections 1 to 3): every operand of every instruction comes back. -/
def Obligations.DecodeEncodeRoundTrip : Prop :=
  ∀ i : Instr, i.wellFormed = true → decode (encode i) = i

/-- Every word of the three formats decodes to a well-formed instruction. Every `PU` word, and every `TOK` word that is a
data token or whose upper payload byte is zero, is encoded back from it; that the encoder writes that byte 0 for a
reserved tag too, where the spec is silent, is the model's choice (log 21). -/
def Obligations.WordsDecodeWellFormedAndReencode : Prop :=
  (∀ w : Word, (decode w).wellFormed = true) ∧
  (∀ w : PuWord, encode (decodePu w) = .pu w) ∧
  (∀ w : TokWord, tokTag w = 0#3 ∨ w.extractLsb' 8 8 = 0#8 → encode (decodeTok w) = .tok w)

/-- R71, the format `TOK`: the tag, the pattern, the handle, the upper payload byte that the packer ignores and the
producer writes 0. -/
def Obligations.TokFormatDecodes : Prop :=
  (∀ p : BitVec 16, decodeTok (0#3 ++ p) = .tokData p) ∧
  (∀ x h : BitVec 8, decodeTok (1#3 ++ (x ++ h)) = .tokPre h) ∧
  (∀ x h : BitVec 8, decodeTok (2#3 ++ (x ++ h)) = .tokEom h) ∧
  (∀ x h : BitVec 8, decodeTok (3#3 ++ (x ++ h)) = .tokEos h) ∧
  (∀ (g : Tag) (x d : BitVec 8), 4 ≤ g.toNat → decodeTok (g ++ (x ++ d)) = .tokRsvd g d) ∧
  (∀ (s : State) (g : Tag) (next : Handle → Machine.Prod), s.tq.length < s.params.tqDepth →
    (pushMarker s g next).tq = s.tq ++ [g ++ (0#8 ++ s.nextHandle)])

/-- R73, the format `PU`: the tag, the unit or the handle, the first bit on the air in bit 7. -/
def Obligations.PuFormatDecodes : Prop :=
  (∀ u : Byte, decodePu (0#3 ++ u) = .puUnit u ∧ unitBit u 0 = u.getLsbD 7) ∧
  (∀ h : Handle, decodePu (1#3 ++ h) = .puPre h) ∧
  (∀ h : Handle, decodePu (2#3 ++ h) = .puEom h) ∧
  (∀ h : Handle, decodePu (3#3 ++ h) = .puEos h) ∧
  (∀ (g : Tag) (d : Byte), 4 ≤ g.toNat → decodePu (g ++ d) = .puRsvd g d)

/-- `TOK` and `PU` words of the table in 95_test_vectors.md section 2.1, and `CMD` opcodes of R74. The spec prints the
words; reading them as numbers of 24, 16 and 8 bits, and a bare `CMD` opcode with every port zero, is the model's choice
(log 21, log 18). -/
def Obligations.SpecTableWordsDecode : Prop :=
  decodeTableWord 24 0x0B000 = some (.tokData 0xB000) ∧ decodeTableWord 24 0x10000 = some (.tokPre 0) ∧
  decodeTableWord 24 0x200FF = some (.tokEom 255) ∧ decodeTableWord 24 0x30002 = some (.tokEos 2) ∧
  decodeTableWord 24 0x101FF = some (.tokPre 255) ∧ decodeTableWord 24 0x512AB = some (.tokRsvd 5 0xAB) ∧
  decodeTableWord 16 0x0B2 = some (.puUnit 0xB2) ∧ decodeTableWord 16 0x201 = some (.puEom 1) ∧
  decodeTableWord 16 0x302 = some (.puEos 2) ∧ decodeTableWord 16 0x512 = some (.puRsvd 5 0x12) ∧
  decodeTableWord 8 1 = some .endSession ∧ decodeTableWord 8 4 = some (.sample 0 0 0 false) ∧
  decodeTableWord 8 7 = some .cmdRsvd7

/-! ### A step runs the decoded instruction -/

/-- A host turn runs the operation its opcode and ports decode to; the turn leaves the agenda (R70, R74). -/
def Obligations.HostTurnRunsDecodedCommand : Prop :=
  ∀ (s : State) (op : BitVec 3) (ports : Ports) (rest : List Turn),
    s.params.valid = true → s.agenda = .host op ports :: rest →
    step s = exec (decode (.cmd op ports)) { s with agenda := rest }

/-- A packer turn runs the token at the head of `TQ`, decoded; with `TQ` empty it is not enabled (R110). -/
def Obligations.PackerTurnRunsDecodedToken : Prop :=
  ∀ (s : State) (rest : List Turn), s.params.valid = true → s.agenda = .packer :: rest →
    (∀ w ws, s.tq = w :: ws → step s = exec (decode (.tok w)) { s with agenda := rest }) ∧
    (s.tq = [] → step s = .next { s with agenda := rest, report := .notEnabled })

/-- A SAMPLE turn whose segment polls runs the word at the head of `PQ`, decoded, and then, unless that raised
InvariantViolation, the raster, the tick and the outputs of the same step (R130, R176, R193). -/
def Obligations.SampleTurnRunsDecodedUnit : Prop :=
  ∀ (s : State) (ports : Ports) (rest : List Turn) (w : PuWord) (ws : List PuWord),
    s.params.valid = true → s.agenda = .host 4#3 ports :: rest → s.fault = 0#2 → s.cancel = false →
    polls s.seg = true → s.pq = w :: ws →
    ∃ s1, exec (decode (.pu w)) { s with agenda := rest } = .next s1 ∧
      step s = .next (if s1.fault = 0#2 then samplePart ports.t s1 else s1)

/-- The turns that fetch no word: PROD_STEP, DONE_FIRE, the input pin; an empty agenda (log 2: the model's choice). -/
def Obligations.TurnsWithoutAWord : Prop :=
  ∀ (s : State) (rest : List Turn), s.params.valid = true →
    (s.agenda = .producer :: rest → step s = .next (prodStep { s with agenda := rest })) ∧
    (s.agenda = .watch :: rest → step s = .next (doneFire { s with agenda := rest })) ∧
    (∀ b, s.agenda = .donePin b :: rest → step s = .next { s with agenda := rest, donePin := b, report := .idle }) ∧
    (s.agenda = [] → step s = .next { s with report := .idle })

/-- A step answers a next state exactly when the configuration meets R213; otherwise it refuses (U1, U16). No instruction
ends a run. -/
def Obligations.StepStopsOnlyOnBadConfiguration : Prop :=
  ∀ s : State, (s.params.valid = true → ∃ s', step s = .next s') ∧
    (s.params.valid = false → step s = .refused .invalidConfiguration)

/-! ### Token Producer -/

/-- WRITE and ENDSESSION start while `FAULT = 0`, `PROD = IDLE` and `CANCEL = 0` (R90, R96): the operation is in flight
at its first stage with some handle value (log 9: unspecified), and nothing else of the block changes. -/
def Obligations.WriteAndEndSessionStart : Prop :=
  ∀ s : State, s.fault = 0#2 → s.prod = .idle → s.cancel = false →
    (∀ bytes, ∃ h k, exec (.write bytes) s =
      .next { s with prod := .write bytes 0 .pre h, report := .done, freeCount := k }) ∧
    (∃ h k, exec .endSession s = .next { s with prod := .ends .eos h, report := .done, freeCount := k })

/-- A start that is turned away (R6, R90, R96, R102, R190): with `CANCEL = 1` it fails at once with `(0, AbortedWrite)`
and `PROD` stays IDLE; while an operation is in flight, or after a fault, it is not enabled and nothing changes. -/
def Obligations.StartTurnedAway : Prop :=
  ∀ (s : State) (i : Instr), (i = .endSession ∨ ∃ bytes, i = .write bytes) →
    (s.fault = 0#2 → s.prod = .idle → s.cancel = true →
      exec i s = .next { s with result := { n := 0, err := true }, report := .completed 0 true }) ∧
    (s.fault ≠ 0#2 ∨ s.prod ≠ .idle → exec i s = .next { s with report := .notEnabled })

/-- CLOSESESSION sets `CANCEL`, ABORTWHENDONE sets `ABORT_ARMED`, in any state of `PROD`, and nothing else changes
(R99, R100); after a fault neither does anything (R6). -/
def Obligations.CloseSessionAndAbortWhenDone : Prop :=
  ∀ s : State,
    (s.fault = 0#2 →
      exec .closeSession s = .next { s with cancel := true, report := .done } ∧
      exec .abortWhenDone s = .next { s with abortArmed := true, report := .done }) ∧
    (s.fault ≠ 0#2 →
      exec .closeSession s = .next { s with report := .notEnabled } ∧
      exec .abortWhenDone s = .next { s with report := .notEnabled })

/-- R101: DONE_FIRE is enabled exactly while `FAULT = 0`, the watcher is armed, the pin is 1 and `CANCEL = 0`; it sets
`CANCEL`. It samples the level only: a pin back at 0 leaves it not enabled. -/
def Obligations.DoneFireSamplesTheLevel : Prop :=
  ∀ s : State,
    (s.fault = 0#2 ∧ s.abortArmed = true ∧ s.donePin = true ∧ s.cancel = false →
      doneFire s = { s with cancel := true, report := .done }) ∧
    (¬ (s.fault = 0#2 ∧ s.abortArmed = true ∧ s.donePin = true ∧ s.cancel = false) →
      doneFire s = { s with report := .notEnabled }) ∧
    doneFire { s with donePin := false } = { s with donePin := false, report := .notEnabled } ∧
    (s.fault = 0#2 → s.donePin = true → s.cancel = false →
      ∃ s', exec .abortWhenDone s = .next s' ∧ doneFire s' = { s with abortArmed := true, cancel := true, report := .done })

/-- R82: the reserved opcodes 5 to 7 decode to their rows, whatever the ports carry, and change no state; `report` is
the model's own field. -/
def Obligations.ReservedOpcodesChangeNothing : Prop :=
  ∀ (s : State) (ports : Ports) (op : BitVec 3), 5 ≤ op.toNat →
    (decodeCmd op ports = .cmdRsvd5 ∨ decodeCmd op ports = .cmdRsvd6 ∨ decodeCmd op ports = .cmdRsvd7) ∧
    exec (decodeCmd op ports) s = .next { s with report := .notEnabled } ∧
    exec .cmdRsvd5 s = .next { s with report := .notEnabled } ∧
    exec .cmdRsvd6 s = .next { s with report := .notEnabled } ∧
    exec .cmdRsvd7 s = .next { s with report := .notEnabled }

/-- The marker stages with room in `TQ` (R91, R93, R97): the next handle is allocated and its marker pushed, the
preamble's handle is not kept, the other two are waited on. -/
def Obligations.ProducerPushesMarkers : Prop :=
  ∀ s : State, s.fault = 0#2 → s.cancel = false → s.tq.length < s.params.tqDepth →
    ∃ f, clearsOnly s.fired f s.nextHandle ∧
      (∀ bytes idx h, s.prod = .write bytes idx .pre h → prodStep s =
        { s with fired := f, nextHandle := s.nextHandle + 1#8, tq := s.tq ++ [1#3 ++ (0#8 ++ s.nextHandle)],
                 prod := .write bytes idx .data h, report := .done }) ∧
      (∀ bytes idx h, s.prod = .write bytes idx .eom h → prodStep s =
        { s with fired := f, nextHandle := s.nextHandle + 1#8, tq := s.tq ++ [2#3 ++ (0#8 ++ s.nextHandle)],
                 prod := .write bytes idx .wait s.nextHandle, report := .done }) ∧
      (∀ h, s.prod = .ends .eos h → prodStep s =
        { s with fired := f, nextHandle := s.nextHandle + 1#8, tq := s.tq ++ [3#3 ++ (0#8 ++ s.nextHandle)],
                 prod := .ends .wait s.nextHandle, report := .done })

/-- Stage `W_DATA` (R92, R54): the end of the list, a byte without a pattern (128 or more, or a `NONE` entry), a byte
with a pattern and room in `TQ`. With the lookup in `TABLE` (R14, R54): a listed code gives its pattern, an unlisted one
`NONE`; that `TABLE` is a list by rising code is the model's choice (log 15). -/
def Obligations.ProducerTranslatesOneByte : Prop :=
  (∀ (s : State) (c : BitVec 7) (p : BitVec 16), Config.codesRising s.params.table = true →
    (tableRead s c = some p ↔ (c, p) ∈ s.params.table)) ∧
  (∀ (s : State) (c : BitVec 7), tableRead s c = none ↔ ∀ p, (c, p) ∉ s.params.table) ∧
  ∀ (s : State) (bytes : List Byte) (idx : Nat) (h : Handle),
    s.fault = 0#2 → s.cancel = false → s.prod = .write bytes idx .data h →
    (bytes.length ≤ idx → prodStep s = { s with prod := .write bytes idx .eom h, report := .done }) ∧
    (∀ b, bytes[idx]? = some b → b.getLsbD 7 = true ∨ tableRead s (b.extractLsb' 0 7) = none →
      prodStep s = { s with prod := .write bytes (idx + 1) .data h, report := .done }) ∧
    (∀ b p, bytes[idx]? = some b → b.getLsbD 7 = false → tableRead s (b.extractLsb' 0 7) = some p →
      s.tq.length < s.params.tqDepth →
      prodStep s = { s with tq := s.tq ++ [0#3 ++ p], prod := .write bytes (idx + 1) .data h, report := .done })

/-- The waiting stages complete when their handle has fired (R94, R98): WRITE with its length, ENDSESSION with 0, both OK. -/
def Obligations.AcknowledgedOperationCompletes : Prop :=
  ∀ (s : State) (h : Handle), s.fault = 0#2 → s.cancel = false → s.fired.getLsbD h.toNat = true →
    (∀ bytes idx, s.prod = .write bytes idx .wait h → prodStep s =
      { s with prod := .idle, result := { n := bytes.length, err := false },
               report := .completed bytes.length false }) ∧
    (s.prod = .ends .wait h → prodStep s =
      { s with prod := .idle, result := { n := 0, err := false }, report := .completed 0 false })

/-- Cancellation wins at every stage, over a full queue and over a handle that has fired (R95, R97, R98, R198): the
operation aborts with the bytes processed so far, and nothing is pushed. -/
def Obligations.CancelledOperationAborts : Prop :=
  ∀ s : State, s.fault = 0#2 → s.cancel = true →
    (∀ bytes idx stage h, s.prod = .write bytes idx stage h → prodStep s =
      { s with prod := .idle, result := { n := idx, err := true }, report := .completed idx true }) ∧
    (∀ stage h, s.prod = .ends stage h → prodStep s =
      { s with prod := .idle, result := { n := 0, err := true }, report := .completed 0 true })

/-- A PRODUCER with an operation in flight is stuck for exactly three reasons (40_token_producer.md section 4: R104 marks
this as its own inference): a fault, or, uncancelled, a full `TQ` or a handle not fired. A stuck step changes nothing. -/
def Obligations.ProducerStuckForThreeReasons : Prop :=
  ∀ s : State, s.prod ≠ .idle →
    ((prodStep s).report = .notEnabled ↔
      s.fault ≠ 0#2 ∨
      (s.cancel = false ∧ s.wantsRoom = true ∧ s.params.tqDepth ≤ s.tq.length) ∨
      (s.cancel = false ∧ ∃ h, waitsOn s.prod = some h ∧ s.fired.getLsbD h.toNat = false)) ∧
    ((prodStep s).report = .notEnabled → prodStep s = { s with report := .notEnabled })

/-- The token sequence of one WRITE (40_token_producer.md section 4: R103 marks this as its own inference): with room in
`TQ` and no cancellation, `len + 3` PROD_STEPs push one preamble marker, one data token per representable byte in order,
one end-of-message marker, and leave the WRITE waiting on that marker's handle. -/
def Obligations.WriteEnqueuesOneFramedMessage : Prop :=
  ∀ (s : State) (bytes : List Byte) (h : Handle),
    s.fault = 0#2 → s.cancel = false → s.prod = .write bytes 0 .pre h →
    s.tq.length + (dataTokens s bytes).length + 2 ≤ s.params.tqDepth →
    ∃ f1 f2, clearsOnly s.fired f1 s.nextHandle ∧ clearsOnly f1 f2 (s.nextHandle + 1#8) ∧
      prodSteps (bytes.length + 3) s =
        { s with
          tq := s.tq ++ (1#3 ++ (0#8 ++ s.nextHandle)) ::
            (dataTokens s bytes ++ [2#3 ++ (0#8 ++ (s.nextHandle + 1#8))])
          fired := f2
          nextHandle := s.nextHandle + 2#8
          prod := .write bytes bytes.length .wait (s.nextHandle + 1#8)
          report := .done }

/-! ### Bit Packer -/

/-- TOK.DATA (R111, R112): the bits already held followed by the pattern's bits, cut after the second of two adjacent
zeros, are the units pushed followed by the bits still held, most significant first; at most two units, and `LAST_ZERO`
is that of the last bit shifted in. -/
def Obligations.PackDataEmitsCutPattern : Prop :=
  ∀ (s : State) (p : BitVec 16), s.fault = 0#2 → s.cancel = false → s.pq.length + 3 ≤ s.params.pqDepth → s.PackerOk →
    ∃ (us : List Byte) (acc : Byte) (fill : Nat),
      exec (.tokData p) s =
        .next { s with tq := s.tq.tail, pq := s.pq ++ us.map (fun u => 0#3 ++ u), acc := acc, fill := fill,
                       lastZero := lastZeroAfter s.lastZero (cutBits s.lastZero (bitsDown 16 p)), report := .done } ∧
      us.length ≤ 2 ∧ fill ≤ 7 ∧ acc.toNat < 2 ^ fill ∧
      bitsDown s.fill s.acc ++ cutBits s.lastZero (bitsDown 16 p) = us.flatMap (bitsDown 8) ++ bitsDown fill acc

/-- A pattern with the sparse-zero property and two zeros below its last one is emitted whole and followed by exactly two
zeros (R53, 41_bit_packer.md section 5: R121 marks this as its own inference); its first bit must be a one unless the
bit before it was a one. -/
def Obligations.SparsePatternKeepsItsBits : Prop :=
  ∀ (s : State) (p : BitVec 16) (l rest : List Bool),
    s.fault = 0#2 → s.cancel = false → s.pq.length + 3 ≤ s.params.pqDepth → s.PackerOk →
    bitsDown 16 p = l ++ false :: false :: rest → sparseZero l = true → l.head? = some true ∨ s.lastZero = false →
    ∃ (s' : State) (us : List Byte), exec (.tokData p) s = .next s' ∧
      s'.pq = s.pq ++ us.map (fun u => 0#3 ++ u) ∧ s'.lastZero = true ∧
      bitsDown s.fill s.acc ++ (l ++ [false, false]) = us.flatMap (bitsDown 8) ++ bitsDown s'.fill s'.acc

/-- A non-data token (R113 to R118): with an empty accumulator only the word passes; otherwise the padded unit goes
first, and the extra all-zero unit when `EXTRA_GAP` holds and the padded unit is not zero but ends in two zeros. The tag
and the low payload byte pass unchanged, a reserved tag too. -/
def Obligations.PackMarkerFlushesAndPasses : Prop :=
  ∀ (s : State) (i : Instr) (g : Tag) (d : Byte),
    s.fault = 0#2 → s.cancel = false → s.pq.length + 3 ≤ s.params.pqDepth →
    (i = .tokPre d ∧ g = 1#3) ∨ (i = .tokEom d ∧ g = 2#3) ∨ (i = .tokEos d ∧ g = 3#3) ∨ (i = .tokRsvd g d ∧ 4 ≤ g.toNat) →
    (s.fill = 0 → exec i s = .next { s with tq := s.tq.tail, pq := s.pq ++ [g ++ d], report := .done }) ∧
    (s.fill ≠ 0 → ∀ u : Byte, u = s.acc <<< (8 - s.fill) →
      exec i s = .next
        { s with
          tq := s.tq.tail
          pq := s.pq ++ ((0#3 ++ u) ::
            ((if s.params.extraGap = true ∧ u.getLsbD 0 = false ∧ u.getLsbD 1 = false ∧ u ≠ 0#8 then [0#11] else [])
              ++ [g ++ d]))
          acc := 0#8
          fill := 0
          report := .done })

/-- PACK_STEP is not enabled after a fault, when cancelled, or with fewer than three free entries in `PQ` (R110): no
token leaves `TQ` and nothing changes. -/
def Obligations.PackerNotEnabledChangesNothing : Prop :=
  ∀ (s : State) (w : TokWord), s.fault ≠ 0#2 ∨ s.cancel = true ∨ s.params.pqDepth < s.pq.length + 3 →
    exec (decodeTok w) s = .next { s with report := .notEnabled }

/-- Packing depends on `ACC`, `FILL`, `LAST_ZERO`, `EXTRA_GAP` and the token only (41_bit_packer.md section 5: R119 marks
this as its own inference), and one step pushes at most three words (R110). -/
def Obligations.PackingReadsPackerStateOnly : Prop :=
  ∀ (s1 s2 : State) (w : TokWord), s1.packReady = true → s2.packReady = true → s1.fill ≤ 7 →
    s1.acc = s2.acc → s1.fill = s2.fill → s1.lastZero = s2.lastZero → s1.params.extraGap = s2.params.extraGap →
    ∃ acc fill lz ws, ws.length ≤ 3 ∧
      exec (decodeTok w) s1 = .next { s1 with tq := s1.tq.tail, acc := acc, fill := fill, lastZero := lz,
                                              pq := s1.pq ++ ws, report := .done } ∧
      exec (decodeTok w) s2 = .next { s2 with tq := s2.tq.tail, acc := acc, fill := fill, lastZero := lz,
                                              pq := s2.pq ++ ws, report := .done }

/-! ### Segment Sequencer: the transition function -/

/-- PU.UNIT in an exhausted Preamble or Transmit loads the unit, whatever its value (R133). -/
def Obligations.UnitLoadsTransmit : Prop :=
  ∀ (s : State) (u : Byte), s.fault = 0#2 → s.cancel = false → openExhausted s.seg = true →
    exec (.puUnit u) s = .next { s with pq := s.pq.tail, seg := .transmit u 0 false, report := .done }

/-- R142 with the fault entry of R193: a unit that meets the idle Off sets `FAULT` to 2; the word is lost, nothing else
changes, and the SAMPLE step that popped it performs no tick and returns no triple. -/
def Obligations.UnitInIdleOffFaults : Prop :=
  ∀ (s : State) (u : Byte), s.fault = 0#2 → s.cancel = false → s.seg = .off false →
    exec (.puUnit u) s = .next { s with pq := s.pq.tail, fault := 2#2, report := .faulted } ∧
    (∀ ws t a f p, s.pq = (0#3 ++ u) :: ws →
      exec (.sample t a f p) s = .next { s with pq := ws, fault := 2#2, report := .faulted })

/-- R134 with the fault entry of R193: a reserved tag in any polling segment sets `FAULT` to 1; the word has been popped,
`SEG` is unchanged, the SAMPLE step performs no tick and returns no triple. -/
def Obligations.ReservedUnitFaults : Prop :=
  ∀ (s : State) (g : Tag) (d : Byte), 4 ≤ g.toNat → s.fault = 0#2 → s.cancel = false → polls s.seg = true →
    exec (.puRsvd g d) s = .next { s with pq := s.pq.tail, fault := 1#2, report := .faulted } ∧
    (∀ ws t a f p, s.pq = (g ++ d) :: ws →
      exec (.sample t a f p) s = .next { s with pq := ws, fault := 1#2, report := .faulted })

/-- PU.PRE opens a Preamble from the idle Off without firing its handle (R135), and is only acknowledged by an exhausted
Preamble or Transmit (R136, R137). -/
def Obligations.PreambleMarkerOpensOrIsAcknowledged : Prop :=
  ∀ (s : State) (h : Handle), s.fault = 0#2 → s.cancel = false →
    (s.seg = .off false →
      exec (.puPre h) s = .next { s with pq := s.pq.tail, seg := .preamble s.params.preCycles h false, report := .done }) ∧
    (openExhausted s.seg = true → ∃ f, firesOnly s.fired f h ∧
      exec (.puPre h) s = .next { s with pq := s.pq.tail, fired := f, report := .done })

/-- PU.EOM is acknowledged in every polling segment and leaves it as it is (R138). -/
def Obligations.EndOfMessageIsAcknowledged : Prop :=
  ∀ (s : State) (h : Handle), s.fault = 0#2 → s.cancel = false → polls s.seg = true →
    ∃ f, firesOnly s.fired f h ∧ exec (.puEom h) s = .next { s with pq := s.pq.tail, fired := f, report := .done }

/-- PU.EOS starts the End from an exhausted Preamble or Transmit without firing its handle (R139); in the idle Off it is
acknowledged and the session is closed at once (R140). -/
def Obligations.EndOfSessionEndsOrCloses : Prop :=
  ∀ (s : State) (h : Handle), s.fault = 0#2 → s.cancel = false →
    (openExhausted s.seg = true →
      exec (.puEos h) s = .next { s with pq := s.pq.tail, seg := .ending s.params.preCycles h false, report := .done }) ∧
    (s.seg = .off false → ∃ f, firesOnly s.fired f h ∧
      exec (.puEos h) s = .next { s with pq := s.pq.tail, seg := .off true, fired := f, report := .done })

/-- A word is taken only by a polling segment (R130, R141, R144, R197): after a fault, when cancelled, or when the
segment does not poll, no word leaves `PQ` and nothing changes; a SAMPLE step pops nothing either. -/
def Obligations.NothingIsPoppedUnlessPolling : Prop :=
  ∀ (s : State) (w : PuWord), s.fault ≠ 0#2 ∨ s.cancel = true ∨ polls s.seg = false →
    exec (decodePu w) s = .next { s with report := .notEnabled } ∧
    (∀ t a f p s', exec (.sample t a f p) s = .next s' → s'.pq = s.pq)

/-- An exhausted End closes without a pop, whatever the queue holds (R143); the step goes on with its raster and its tick
(R176), of which `Off` takes only the forecast 0 and `RISE_EN` from `FALL_EN` (R157 to R159); it is silent (R178), fires
nothing and cancels nothing. `tick` says whether the step performs a tick (R174). -/
def Obligations.ExhaustedEndCloses : Prop :=
  ∀ (s : State) (r : Nat) (h : Handle) (t cell : Time) (tick : Bool) (a : Nat) (f : Freq) (p : Bool),
    s.fault = 0#2 → s.cancel = false → s.seg = .ending r h true →
    cell = BitVec.ofNat 64 (t.toNat / s.params.cellLen) → tick = (!s.cellValid || cell != s.lastCell) →
    exec (.sample t a f p) s = .next
      { s with
        seg := .off true
        lastCell := cell
        cellValid := true
        switchNext := xor s.switchNext tick
        fallEn := if tick = true ∧ s.switchNext = false then false else s.fallEn
        riseEn := if tick = true ∧ s.switchNext = true then s.fallEn else s.riseEn
        report := .triple 0 s.carrier s.phase }

/-! ### Segment Sequencer: ticks -/

/-- R151: a boundary tick in a Preamble flips the phase and counts down; at zero, or when the handle has already fired,
the handle is fired and the segment is exhausted. With the rule's example. -/
def Obligations.PreambleTick : Prop :=
  (∀ (s : State) (r : Nat) (h : Handle) (e : Bool), s.seg = .preamble r h e →
    (r ≤ 1 ∨ s.fired.getLsbD h.toNat = true → ∃ f, firesOnly s.fired f h ∧
      boundaryTick s = { s with seg := .preamble (r - 1) h true, fired := f, phase := !s.phase, riseEn := true }) ∧
    (1 < r → s.fired.getLsbD h.toNat = false →
      boundaryTick s = { s with seg := .preamble (r - 1) h e, phase := !s.phase, riseEn := true })) ∧
  (∀ s : State, s.seg = .preamble 2 0 false → s.fired = 0#256 →
    (boundaryTick s).seg = .preamble 1 0 false ∧ (boundaryTick (boundaryTick s)).seg = .preamble 0 0 true ∧
    (boundaryTick (boundaryTick s)).fired.getLsbD 0 = true)

/-- R153: a boundary tick in a Transmit consumes the next bit, most significant first, and flips the phase when it is 0;
past the eighth bit it reads 0; the segment is exhausted after the eighth bit or when the unit is zero. With the rule's
example. -/
def Obligations.TransmitTick : Prop :=
  (∀ (s : State) (u : Byte) (k : Nat) (e : Bool), s.seg = .transmit u k e →
    (∀ b : Bool, k < 8 → b = u.getLsbD (7 - k) →
      boundaryTick s = { s with seg := .transmit u (k + 1) (e || decide (k + 1 = 8) || decide (u = 0#8)),
                                phase := xor s.phase (!b), riseEn := s.fallEn || !b }) ∧
    (k = 8 → boundaryTick s = { s with seg := .transmit u 8 true, phase := !s.phase, riseEn := true })) ∧
  (∀ s : State, s.seg = .transmit 0xA0 0 false →
    (boundaryTicks 8 s).seg = .transmit 0xA0 8 true ∧
    ∀ n : Fin 8, xor (boundaryTicks n.val s).phase (boundaryTicks (n.val + 1) s).phase
      = [false, true, false, true, true, true, true, true].getD n.val false)

/-- R156: a boundary tick in an End flips the phase and counts down; at zero the handle is fired and the segment is
exhausted; an End with nothing left does nothing. With the rule's example. -/
def Obligations.EndTick : Prop :=
  (∀ (s : State) (r : Nat) (h : Handle) (e : Bool), s.seg = .ending r h e →
    (1 < r → boundaryTick s = { s with seg := .ending (r - 1) h e, phase := !s.phase, riseEn := true }) ∧
    (r = 1 → ∃ f, firesOnly s.fired f h ∧
      boundaryTick s = { s with seg := .ending 0 h true, fired := f, phase := !s.phase, riseEn := true }) ∧
    (r = 0 → boundaryTick s = { s with riseEn := s.fallEn })) ∧
  (∀ s : State, s.seg = .ending 2 5 false →
    (boundaryTick s).seg = .ending 1 5 false ∧ (boundaryTick (boundaryTick s)).seg = .ending 0 5 true ∧
    (boundaryTick (boundaryTick s)).fired.getLsbD 5 = true ∧
    (s.cancel = false → (sequencerPart (boundaryTick (boundaryTick s))).seg = .off true))

/-- R154, the keying law: after a boundary tick in Transmit the phase is as before for a 1 bit and its complement for a 0
bit; a run of zero bits is a run of reversals. -/
def Obligations.KeyingLaw : Prop :=
  ∀ (s : State) (u : Byte) (k : Nat) (e : Bool), s.seg = .transmit u k e → k < 8 →
    (u.getLsbD (7 - k) = true → (boundaryTick s).phase = s.phase) ∧
    (u.getLsbD (7 - k) = false → (boundaryTick s).phase = !s.phase) ∧
    (∀ n, k + n ≤ 8 → (∀ j, j < n → u.getLsbD (7 - (k + j)) = false) →
      (boundaryTicks n s).phase = xor s.phase (decide (n % 2 = 1)))

/-- A Preamble and an End last exactly their cycles (R151, R156, R230): after `n` boundary ticks `n` cycles are gone, the
phase has flipped `n` times, and exhaustion and the acknowledgement come with the last. -/
def Obligations.PreambleAndEndLastTheirCycles : Prop :=
  ∀ (s : State) (r n : Nat) (h : Handle), 1 ≤ r → n ≤ r → s.fired.getLsbD h.toNat = false →
    s.seg = .preamble r h false ∨ s.seg = .ending r h false →
    (s.seg = .preamble r h false → (boundaryTicks n s).seg = .preamble (r - n) h (decide (n = r))) ∧
    (s.seg = .ending r h false → (boundaryTicks n s).seg = .ending (r - n) h (decide (n = r))) ∧
    (boundaryTicks n s).phase = xor s.phase (decide (n % 2 = 1)) ∧
    (boundaryTicks n s).fired.getLsbD h.toNat = decide (n = r)

/-- A unit lasts eight boundary ticks and a gap unit one (R153, R155, R230): after `n` ticks `n` bits are gone, and the
phase has flipped once for each zero among them. -/
def Obligations.UnitLastsEightTicks : Prop :=
  ∀ (s : State) (u : Byte) (n : Nat), s.seg = .transmit u 0 false → n ≤ 8 →
    (boundaryTicks n s).seg = .transmit u n (decide (n = 8) || (decide (u = 0#8) && decide (1 ≤ n))) ∧
    (boundaryTicks n s).phase =
      xor s.phase (decide (((List.range n).filter (fun j => !u.getLsbD (7 - j))).length % 2 = 1))

/-! ### Sample Synthesizer -/

/-- Parts 2 to 4 of a SAMPLE step (R176) in the cell of the step before, from every state: nothing changes, and the triple
is the amplitude of R10, R173 and R177 to R179, the carrier and the phase. With nothing for the sequencer to do, the
SAMPLE step is these parts. -/
def Obligations.SampleWithinACell : Prop :=
  ∀ (s : State) (t : Time),
    s.cellValid = true → BitVec.ofNat 64 (t.toNat / s.params.cellLen) = s.lastCell →
    samplePart t s =
      { s with
        report := .triple (amplitudeLaw s.params s.seg (!s.switchNext) s.riseEn s.fallEn
          (t.toNat % s.params.cellLen)) s.carrier s.phase } ∧
    (s.fault = 0#2 → s.QuietSequencer →
      ∀ (a : Nat) (f : Freq) (p : Bool), exec (.sample t a f p) s = .next (samplePart t s))

/-- R159, in parts 2 to 4 of a SAMPLE step (R176) from every state: a mid tick records the cell, inverts the parity and
forecasts the next flip (R158) into `FALL_EN`; no bit is consumed, no counter moves, the phase is held. The amplitude is
that of the state after the tick, in the second cell of the baud period (R177). With nothing for the sequencer to do,
the SAMPLE step is these parts. -/
def Obligations.SampleMidTick : Prop :=
  ∀ (s : State) (t cell : Time),
    cell = BitVec.ofNat 64 (t.toNat / s.params.cellLen) → s.cellValid = false ∨ cell ≠ s.lastCell →
    s.switchNext = false →
    samplePart t s =
      { s with
        lastCell := cell
        cellValid := true
        switchNext := true
        fallEn := flipLaw s.seg
        report := .triple (amplitudeLaw s.params s.seg false s.riseEn (flipLaw s.seg)
          (t.toNat % s.params.cellLen)) s.carrier s.phase } ∧
    (s.fault = 0#2 → s.QuietSequencer →
      ∀ (a : Nat) (f : Freq) (p : Bool), exec (.sample t a f p) s = .next (samplePart t s))

/-- A boundary tick (R150, R174), in parts 2 to 4 of a SAMPLE step (R176) from every state: it records the cell, inverts
the parity, takes the segment's own tick, and flips the phase exactly as the forecast of R158 says for the segment it
finds. The amplitude is that of the state after the tick, in the boundary cell (R177). With nothing for the sequencer to
do, the SAMPLE step is these parts. The tick of `Off`, whichever its `closed`, flips nothing and writes nothing of the
segment (R157). -/
def Obligations.SampleBoundaryTick : Prop :=
  (∀ (s : State) (t cell : Time),
    cell = BitVec.ofNat 64 (t.toNat / s.params.cellLen) → s.cellValid = false ∨ cell ≠ s.lastCell →
    s.switchNext = true →
    samplePart t s =
      { s with
        lastCell := cell
        cellValid := true
        switchNext := false
        seg := (boundaryTick s).seg
        fired := (boundaryTick s).fired
        phase := xor s.phase (flipLaw s.seg)
        riseEn := s.fallEn || flipLaw s.seg
        report := .triple (amplitudeLaw s.params (boundaryTick s).seg true (s.fallEn || flipLaw s.seg) s.fallEn
          (t.toNat % s.params.cellLen)) s.carrier (xor s.phase (flipLaw s.seg)) } ∧
    (s.fault = 0#2 → s.QuietSequencer →
      ∀ (a : Nat) (f : Freq) (p : Bool), exec (.sample t a f p) s = .next (samplePart t s))) ∧
  (∀ (s : State) (closed : Bool), s.seg = .off closed → boundaryTick s = { s with riseEn := s.fallEn })

/-- The amplitude never exceeds full scale (43_sample_synthesizer.md section 5: R183 marks this as its own inference). -/
def Obligations.AmplitudeWithinFullScale : Prop :=
  ∀ (s s' : State) (t : Time) (a : Nat) (f : Freq) (p : Bool) (amp : Nat) (freq : Freq) (ph : Bool),
    s.params.valid = true → segInRange s.params s.seg = true → s.fault = 0#2 →
    exec (.sample t a f p) s = .next s' → s'.report = .triple amp freq ph → amp ≤ s.params.ampOne

/-- The phase changes only in a SAMPLE step that performs a boundary tick (R28, R47 f, R150): no other turn but RESET
writes it. -/
def Obligations.PhaseChangesOnlyAtBoundaryTicks : Prop :=
  ∀ s s' : State, step s = .next s' → s.NoResetNext → s'.phase ≠ s.phase →
    ∃ ports rest, s.agenda = .host 4#3 ports :: rest ∧ s.fault = 0#2 ∧ s.cancel = false ∧ s.switchNext = true ∧
      (s.cellValid = false ∨ cellOf s.params ports.t ≠ s.lastCell) ∧ s'.switchNext = false

/-- The phase changes at zero amplitude: when the sample that flips it falls on the start of its cell, it returns
amplitude 0 (R150, R173, R177). -/
def Obligations.PhaseFlipsAtZeroAmplitude : Prop :=
  ∀ (s s' : State) (t : Time) (a : Nat) (f : Freq) (p : Bool), s.params.valid = true →
    exec (.sample t a f p) s = .next s' → s'.phase ≠ s.phase → t.toNat % s.params.cellLen = 0 →
    s'.report = .triple 0 s.carrier (!s.phase)

/-- Within one cell the amplitude does not fall in an enabled rise window, does not rise in an enabled fall window, and
is the same wherever no window is enabled (43_sample_synthesizer.md section 5: R182 marks this as its own inference). -/
def Obligations.AmplitudeMonotoneInWindows : Prop :=
  ∀ (s : State) (pos : Nat), s.params.valid = true →
    (s.switchNext = false → s.riseEn = true → pos + 1 < s.params.rampW → s.amplitude pos ≤ s.amplitude (pos + 1)) ∧
    (s.switchNext = true → s.fallEn = true → s.params.cellLen - s.params.rampW ≤ pos → pos + 1 < s.params.cellLen →
      s.amplitude (pos + 1) ≤ s.amplitude pos) ∧
    (∀ pos', s.dips pos = false → s.dips pos' = false → s.amplitude pos = s.amplitude pos')

/-- R171: the driver's amplitude, frequency and phase are read by nothing. -/
def Obligations.SampleIgnoresDriverOperands : Prop :=
  ∀ (s : State) (t : Time) (a a' : Nat) (f f' : Freq) (p p' : Bool), exec (.sample t a f p) s = exec (.sample t a' f' p') s

/-- R181: every triple a step returns carries `CARRIER`; the phase in it is `PHASE` after the step (R180). -/
def Obligations.FrequencyIsAlwaysTheCarrier : Prop :=
  ∀ (s s' : State) (amp : Nat) (freq : Freq) (ph : Bool), step s = .next s' → s'.report = .triple amp freq ph →
    freq = s.carrier ∧ ph = s'.phase

/-- R178: `GAIN` is 0 in Off; after cancellation every SAMPLE step returns `(0, carrier, last phase)`, and no step but
RESET ever changes `CANCEL`, the carrier or the phase again. The SAMPLE step pins the segment (R131) and its ticks go on
(R157, R159, R176): it records the cell, and a tick inverts the parity and writes `FALL_EN` (mid) or `RISE_EN`
(boundary); nothing else changes. `tick` says whether the step performs a tick (R174). -/
def Obligations.CancelledBlockIsSilentForever : Prop :=
  (∀ (p : Params) (closed : Bool) (base : Nat), gain p (.off closed) base = 0) ∧
  (∀ (s : State) (t cell : Time) (tick : Bool) (a : Nat) (f : Freq) (p : Bool), s.fault = 0#2 → s.cancel = true →
    cell = BitVec.ofNat 64 (t.toNat / s.params.cellLen) → tick = (!s.cellValid || cell != s.lastCell) →
    exec (.sample t a f p) s = .next
      { s with
        seg := .off true
        lastCell := cell
        cellValid := true
        switchNext := xor s.switchNext tick
        fallEn := if tick = true ∧ s.switchNext = false then false else s.fallEn
        riseEn := if tick = true ∧ s.switchNext = true then s.fallEn else s.riseEn
        report := .triple 0 s.carrier s.phase }) ∧
  (∀ s s' : State, step s = .next s' → s.NoResetNext → s.cancel = true →
    s'.cancel = true ∧ s'.carrier = s.carrier ∧ s'.phase = s.phase)

/-! ### Reset and the rules of the whole machine -/

/-- R210: RESET is always enabled and puts every register at its reset value; `LAST_CELL` and `RESULT` are unspecified,
`CARRIER` is kept. The pin, the rest of the agenda and the model's own fields are no registers. -/
def Obligations.ResetRestoresEveryRegister : Prop :=
  ∀ (s : State) (rest : List Turn), s.params.valid = true → s.agenda = .reset :: rest →
    ∃ cell result count, step s = .next
      { params := s.params, carrier := s.carrier, seg := .off false, phase := false, switchNext := true,
        cellValid := false, lastCell := cell, fallEn := false, riseEn := false, cancel := false, fault := 0#2,
        acc := 0#8, fill := 0, lastZero := false, tq := [], pq := [], nextHandle := 0#8, fired := 0#256, prod := .idle,
        result := result, abortArmed := false, donePin := s.donePin, agenda := rest, report := .done,
        freeCount := count }

/-- The views of R45: the bits of `STATUS`, with the numbers of the kinds (R21), and the four registers by number. -/
def Obligations.StatusRegisterView : Prop :=
  ∀ s : State,
    s.statusView.getLsbD 7 = s.switchNext ∧ s.statusView.getLsbD 6 = s.phase ∧ s.statusView.getLsbD 5 = s.abortArmed ∧
    s.statusView.getLsbD 4 = decide (s.prod ≠ .idle) ∧ s.statusView.getLsbD 3 = s.cancel ∧
    s.statusView.getLsbD 2 = decide (s.seg = .off true) ∧
    s.statusView.extractLsb' 0 2 = (match s.seg with
      | .off _ => 0#2
      | .preamble _ _ _ => 1#2
      | .transmit _ _ _ => 2#2
      | .ending _ _ _ => 3#2) ∧
    s.csr 0#2 = s.carrier.toNat ∧ s.csr 1#2 = s.statusView.toNat ∧ s.csr 2#2 = s.fault.toNat ∧
    s.csr 3#2 % 2 = s.result.err.toNat ∧ s.csr 3#2 / 2 = s.result.n

/-- The invariant and the wiring hold right after construction, for every configuration; so they hold at `State.reset`,
whose configuration is the model's choice (log 4). -/
def Obligations.ConstructedStateHasInvariantAndWiring : Prop :=
  (∀ p : Params, (State.construct p).Inv ∧ (State.construct p).Wired ∧ (State.construct p).fault = 0#2) ∧
  State.reset.Inv ∧ State.reset.Wired

/-- Every step keeps the invariant (10_state.md section 9, R47 a to c), from every state that has it. -/
def Obligations.StepKeepsInvariant : Prop :=
  ∀ s s' : State, s.Inv → step s = .next s' → s'.Inv

/-- No host operation leads to a fault (30_encoding.md section 4: R81 marks this as its own inference; 60_exceptions.md
section 1: a fault "can only arise from a wiring bug, never from external input"): every step, RESET included, keeps the
wiring and raises no InvariantViolation. -/
def Obligations.WiredBlockNeverFaults : Prop :=
  ∀ s s' : State, s.Wired → s.fault = 0#2 → step s = .next s' → s'.Wired ∧ s'.fault = 0#2

/-- After a fault no step but RESET is enabled (R34, R193, R200): every register keeps its value; only the input pin, the
agenda and the report move, and no triple is returned. -/
def Obligations.FaultHaltsTheBlock : Prop :=
  ∀ s s' : State, s.fault ≠ 0#2 → s.NoResetNext → step s = .next s' →
    (∃ pin agenda report, s' = { s with donePin := pin, agenda := agenda, report := report }) ∧
    (s'.report = .notEnabled ∨ s'.report = .idle)

/-- R141: `Off(closed = 1)` asks for nothing; no step but RESET leaves it or pops a word. -/
def Obligations.ClosedOffIsTerminal : Prop :=
  needNext (.off true) = false ∧
  ∀ s s' : State, s.seg = .off true → s.NoResetNext → step s = .next s' → s'.seg = .off true ∧ ∃ ws, s'.pq = s.pq ++ ws

/-- No step, RESET included, writes the parameters or `CARRIER` (R32, R213); `CANCEL`, `FAULT` and `ABORT_ARMED`, once
set, stay so until RESET (R33, R34, R47 d, R100). -/
def Obligations.ParametersFixedAndFlagsSticky : Prop :=
  ∀ s s' : State, step s = .next s' →
    (s'.params = s.params ∧ s'.carrier = s.carrier) ∧
    (s.NoResetNext →
      (s.cancel = true → s'.cancel = true) ∧ (s.fault ≠ 0#2 → s'.fault = s.fault) ∧
      (s.abortArmed = true → s'.abortArmed = true))

/-- Segments follow one another in one order, and one Preamble at most is ever opened (42_segment_sequencer.md section 4:
R161 marks this as its own inference): no step but RESET goes back, and a Preamble is never replaced by another. -/
def Obligations.SegmentOrderNeverGoesBack : Prop :=
  ∀ s s' : State, s.NoResetNext → step s = .next s' →
    segOrder s.seg ≤ segOrder s'.seg ∧
    (∀ r h e r' h' e', s.seg = .preamble r h e → s'.seg = .preamble r' h' e' → h' = h ∧ r' ≤ r)

/-- Each register is written by its own agent only (10_state.md section 1, the columns "written by"). -/
def Obligations.OnlyItsAgentWritesARegister : Prop :=
  ∀ (s s' : State) (turn : Turn) (rest : List Turn), s.agenda = turn :: rest → step s = .next s' →
    (turn = .packer → ∃ acc fill lz tq pq report, s' =
      { s with acc := acc, fill := fill, lastZero := lz, tq := tq, pq := pq, agenda := rest, report := report }) ∧
    (turn = .producer → ∃ tq nh fired prod result report, s' =
      { s with tq := tq, nextHandle := nh, fired := fired, prod := prod, result := result, agenda := rest,
               report := report }) ∧
    (turn = .watch → ∃ cancel report, s' = { s with cancel := cancel, agenda := rest, report := report }) ∧
    (∀ ports, turn = .host 4#3 ports → ∃ seg ph sn cv lc fe re fault pq fired report, s' =
      { s with seg := seg, phase := ph, switchNext := sn, cellValid := cv, lastCell := lc, fallEn := fe, riseEn := re,
               fault := fault, pq := pq, fired := fired, agenda := rest, report := report }) ∧
    (∀ op ports, op ≠ 4#3 → turn = .host op ports → ∃ cancel prod result armed report count, s' =
      { s with cancel := cancel, prod := prod, result := result, abortArmed := armed, agenda := rest, report := report,
               freeCount := count })
end

