-- ==== Sys2Proof/Laws/Decode.lean ====
section
/-! SUPPORT. The fields of the words the producer, the packer and the encoder build (R71, R73, R75). -/

namespace Sys2Proof

@[simp] theorem tokTag_tokMarker (g : Tag) (d : Byte) : tokTag (tokMarker g d) = g := by
  ext i hi
  rw [tokTag, tokMarker, BitVec.getElem_extractLsb', BitVec.getLsbD_append]
  simp [BitVec.getLsbD_eq_getElem hi]

@[simp] theorem tokLow_tokMarker (g : Tag) (d : Byte) : tokLow (tokMarker g d) = d := by
  ext i hi
  rw [tokLow, tokMarker, BitVec.getElem_extractLsb', BitVec.getLsbD_append, BitVec.getLsbD_append]
  have h : i < 8 + 8 := by omega
  simp only [Nat.zero_add, h, hi, if_true, BitVec.getLsbD_eq_getElem hi]

@[simp] theorem tokTag_tokDataWord (p : BitVec 16) : tokTag (tokDataWord p) = 0#3 := by
  ext i hi
  rw [tokTag, tokDataWord, BitVec.getElem_extractLsb', BitVec.getLsbD_append]
  simp

@[simp] theorem tokPattern_tokDataWord (p : BitVec 16) : tokPattern (tokDataWord p) = p := by
  ext i hi
  rw [tokPattern, tokDataWord, BitVec.getElem_extractLsb', BitVec.getLsbD_append]
  simp only [Nat.zero_add, hi, if_true, BitVec.getLsbD_eq_getElem hi]

@[simp] theorem puTag_puWord (g : Tag) (d : Byte) : puTag (puWord g d) = g := by
  ext i hi
  rw [puTag, puWord, BitVec.getElem_extractLsb', BitVec.getLsbD_append]
  simp [BitVec.getLsbD_eq_getElem hi]

@[simp] theorem puData_puWord (g : Tag) (d : Byte) : puData (puWord g d) = d := by
  ext i hi
  rw [puData, puWord, BitVec.getElem_extractLsb', BitVec.getLsbD_append]
  simp only [Nat.zero_add, hi, if_true, BitVec.getLsbD_eq_getElem hi]

end Sys2Proof
end

