-- ==== Sys2Proof/Laws/State.lean ====
section
/-! SUPPORT. One lemma per field per named update of State, true by rfl, so that no later proof unfolds a record update. -/

namespace Sys2Proof.Machine

section
variable (s : State) (r : Report)

@[simp] theorem State.note_params : (s.note r).params = s.params := rfl
@[simp] theorem State.note_carrier : (s.note r).carrier = s.carrier := rfl
@[simp] theorem State.note_seg : (s.note r).seg = s.seg := rfl
@[simp] theorem State.note_phase : (s.note r).phase = s.phase := rfl
@[simp] theorem State.note_switchNext : (s.note r).switchNext = s.switchNext := rfl
@[simp] theorem State.note_cellValid : (s.note r).cellValid = s.cellValid := rfl
@[simp] theorem State.note_lastCell : (s.note r).lastCell = s.lastCell := rfl
@[simp] theorem State.note_fallEn : (s.note r).fallEn = s.fallEn := rfl
@[simp] theorem State.note_riseEn : (s.note r).riseEn = s.riseEn := rfl
@[simp] theorem State.note_cancel : (s.note r).cancel = s.cancel := rfl
@[simp] theorem State.note_fault : (s.note r).fault = s.fault := rfl
@[simp] theorem State.note_acc : (s.note r).acc = s.acc := rfl
@[simp] theorem State.note_fill : (s.note r).fill = s.fill := rfl
@[simp] theorem State.note_lastZero : (s.note r).lastZero = s.lastZero := rfl
@[simp] theorem State.note_tq : (s.note r).tq = s.tq := rfl
@[simp] theorem State.note_pq : (s.note r).pq = s.pq := rfl
@[simp] theorem State.note_nextHandle : (s.note r).nextHandle = s.nextHandle := rfl
@[simp] theorem State.note_fired : (s.note r).fired = s.fired := rfl
@[simp] theorem State.note_prod : (s.note r).prod = s.prod := rfl
@[simp] theorem State.note_result : (s.note r).result = s.result := rfl
@[simp] theorem State.note_abortArmed : (s.note r).abortArmed = s.abortArmed := rfl
@[simp] theorem State.note_donePin : (s.note r).donePin = s.donePin := rfl
@[simp] theorem State.note_agenda : (s.note r).agenda = s.agenda := rfl
@[simp] theorem State.note_report : (s.note r).report = r := rfl
@[simp] theorem State.note_freeCount : (s.note r).freeCount = s.freeCount := rfl

end

section
variable (s : State)

@[simp] theorem State.notEnabled_params : (s.notEnabled).params = s.params := rfl
@[simp] theorem State.notEnabled_carrier : (s.notEnabled).carrier = s.carrier := rfl
@[simp] theorem State.notEnabled_seg : (s.notEnabled).seg = s.seg := rfl
@[simp] theorem State.notEnabled_phase : (s.notEnabled).phase = s.phase := rfl
@[simp] theorem State.notEnabled_switchNext : (s.notEnabled).switchNext = s.switchNext := rfl
@[simp] theorem State.notEnabled_cellValid : (s.notEnabled).cellValid = s.cellValid := rfl
@[simp] theorem State.notEnabled_lastCell : (s.notEnabled).lastCell = s.lastCell := rfl
@[simp] theorem State.notEnabled_fallEn : (s.notEnabled).fallEn = s.fallEn := rfl
@[simp] theorem State.notEnabled_riseEn : (s.notEnabled).riseEn = s.riseEn := rfl
@[simp] theorem State.notEnabled_cancel : (s.notEnabled).cancel = s.cancel := rfl
@[simp] theorem State.notEnabled_fault : (s.notEnabled).fault = s.fault := rfl
@[simp] theorem State.notEnabled_acc : (s.notEnabled).acc = s.acc := rfl
@[simp] theorem State.notEnabled_fill : (s.notEnabled).fill = s.fill := rfl
@[simp] theorem State.notEnabled_lastZero : (s.notEnabled).lastZero = s.lastZero := rfl
@[simp] theorem State.notEnabled_tq : (s.notEnabled).tq = s.tq := rfl
@[simp] theorem State.notEnabled_pq : (s.notEnabled).pq = s.pq := rfl
@[simp] theorem State.notEnabled_nextHandle : (s.notEnabled).nextHandle = s.nextHandle := rfl
@[simp] theorem State.notEnabled_fired : (s.notEnabled).fired = s.fired := rfl
@[simp] theorem State.notEnabled_prod : (s.notEnabled).prod = s.prod := rfl
@[simp] theorem State.notEnabled_result : (s.notEnabled).result = s.result := rfl
@[simp] theorem State.notEnabled_abortArmed : (s.notEnabled).abortArmed = s.abortArmed := rfl
@[simp] theorem State.notEnabled_donePin : (s.notEnabled).donePin = s.donePin := rfl
@[simp] theorem State.notEnabled_agenda : (s.notEnabled).agenda = s.agenda := rfl
@[simp] theorem State.notEnabled_report : (s.notEnabled).report = .notEnabled := rfl
@[simp] theorem State.notEnabled_freeCount : (s.notEnabled).freeCount = s.freeCount := rfl

end

section
variable (s : State) (w : TokWord)

@[simp] theorem State.pushTq_params : (s.pushTq w).params = s.params := rfl
@[simp] theorem State.pushTq_carrier : (s.pushTq w).carrier = s.carrier := rfl
@[simp] theorem State.pushTq_seg : (s.pushTq w).seg = s.seg := rfl
@[simp] theorem State.pushTq_phase : (s.pushTq w).phase = s.phase := rfl
@[simp] theorem State.pushTq_switchNext : (s.pushTq w).switchNext = s.switchNext := rfl
@[simp] theorem State.pushTq_cellValid : (s.pushTq w).cellValid = s.cellValid := rfl
@[simp] theorem State.pushTq_lastCell : (s.pushTq w).lastCell = s.lastCell := rfl
@[simp] theorem State.pushTq_fallEn : (s.pushTq w).fallEn = s.fallEn := rfl
@[simp] theorem State.pushTq_riseEn : (s.pushTq w).riseEn = s.riseEn := rfl
@[simp] theorem State.pushTq_cancel : (s.pushTq w).cancel = s.cancel := rfl
@[simp] theorem State.pushTq_fault : (s.pushTq w).fault = s.fault := rfl
@[simp] theorem State.pushTq_acc : (s.pushTq w).acc = s.acc := rfl
@[simp] theorem State.pushTq_fill : (s.pushTq w).fill = s.fill := rfl
@[simp] theorem State.pushTq_lastZero : (s.pushTq w).lastZero = s.lastZero := rfl
@[simp] theorem State.pushTq_tq : (s.pushTq w).tq = s.tq ++ [w] := rfl
@[simp] theorem State.pushTq_pq : (s.pushTq w).pq = s.pq := rfl
@[simp] theorem State.pushTq_nextHandle : (s.pushTq w).nextHandle = s.nextHandle := rfl
@[simp] theorem State.pushTq_fired : (s.pushTq w).fired = s.fired := rfl
@[simp] theorem State.pushTq_prod : (s.pushTq w).prod = s.prod := rfl
@[simp] theorem State.pushTq_result : (s.pushTq w).result = s.result := rfl
@[simp] theorem State.pushTq_abortArmed : (s.pushTq w).abortArmed = s.abortArmed := rfl
@[simp] theorem State.pushTq_donePin : (s.pushTq w).donePin = s.donePin := rfl
@[simp] theorem State.pushTq_agenda : (s.pushTq w).agenda = s.agenda := rfl
@[simp] theorem State.pushTq_report : (s.pushTq w).report = s.report := rfl
@[simp] theorem State.pushTq_freeCount : (s.pushTq w).freeCount = s.freeCount := rfl

end

section
variable (s : State) (w : PuWord)

@[simp] theorem State.pushPq_params : (s.pushPq w).params = s.params := rfl
@[simp] theorem State.pushPq_carrier : (s.pushPq w).carrier = s.carrier := rfl
@[simp] theorem State.pushPq_seg : (s.pushPq w).seg = s.seg := rfl
@[simp] theorem State.pushPq_phase : (s.pushPq w).phase = s.phase := rfl
@[simp] theorem State.pushPq_switchNext : (s.pushPq w).switchNext = s.switchNext := rfl
@[simp] theorem State.pushPq_cellValid : (s.pushPq w).cellValid = s.cellValid := rfl
@[simp] theorem State.pushPq_lastCell : (s.pushPq w).lastCell = s.lastCell := rfl
@[simp] theorem State.pushPq_fallEn : (s.pushPq w).fallEn = s.fallEn := rfl
@[simp] theorem State.pushPq_riseEn : (s.pushPq w).riseEn = s.riseEn := rfl
@[simp] theorem State.pushPq_cancel : (s.pushPq w).cancel = s.cancel := rfl
@[simp] theorem State.pushPq_fault : (s.pushPq w).fault = s.fault := rfl
@[simp] theorem State.pushPq_acc : (s.pushPq w).acc = s.acc := rfl
@[simp] theorem State.pushPq_fill : (s.pushPq w).fill = s.fill := rfl
@[simp] theorem State.pushPq_lastZero : (s.pushPq w).lastZero = s.lastZero := rfl
@[simp] theorem State.pushPq_tq : (s.pushPq w).tq = s.tq := rfl
@[simp] theorem State.pushPq_pq : (s.pushPq w).pq = s.pq ++ [w] := rfl
@[simp] theorem State.pushPq_nextHandle : (s.pushPq w).nextHandle = s.nextHandle := rfl
@[simp] theorem State.pushPq_fired : (s.pushPq w).fired = s.fired := rfl
@[simp] theorem State.pushPq_prod : (s.pushPq w).prod = s.prod := rfl
@[simp] theorem State.pushPq_result : (s.pushPq w).result = s.result := rfl
@[simp] theorem State.pushPq_abortArmed : (s.pushPq w).abortArmed = s.abortArmed := rfl
@[simp] theorem State.pushPq_donePin : (s.pushPq w).donePin = s.donePin := rfl
@[simp] theorem State.pushPq_agenda : (s.pushPq w).agenda = s.agenda := rfl
@[simp] theorem State.pushPq_report : (s.pushPq w).report = s.report := rfl
@[simp] theorem State.pushPq_freeCount : (s.pushPq w).freeCount = s.freeCount := rfl

end

section
variable (s : State)

@[simp] theorem State.popTq_params : (s.popTq).params = s.params := rfl
@[simp] theorem State.popTq_carrier : (s.popTq).carrier = s.carrier := rfl
@[simp] theorem State.popTq_seg : (s.popTq).seg = s.seg := rfl
@[simp] theorem State.popTq_phase : (s.popTq).phase = s.phase := rfl
@[simp] theorem State.popTq_switchNext : (s.popTq).switchNext = s.switchNext := rfl
@[simp] theorem State.popTq_cellValid : (s.popTq).cellValid = s.cellValid := rfl
@[simp] theorem State.popTq_lastCell : (s.popTq).lastCell = s.lastCell := rfl
@[simp] theorem State.popTq_fallEn : (s.popTq).fallEn = s.fallEn := rfl
@[simp] theorem State.popTq_riseEn : (s.popTq).riseEn = s.riseEn := rfl
@[simp] theorem State.popTq_cancel : (s.popTq).cancel = s.cancel := rfl
@[simp] theorem State.popTq_fault : (s.popTq).fault = s.fault := rfl
@[simp] theorem State.popTq_acc : (s.popTq).acc = s.acc := rfl
@[simp] theorem State.popTq_fill : (s.popTq).fill = s.fill := rfl
@[simp] theorem State.popTq_lastZero : (s.popTq).lastZero = s.lastZero := rfl
@[simp] theorem State.popTq_tq : (s.popTq).tq = s.tq.tail := rfl
@[simp] theorem State.popTq_pq : (s.popTq).pq = s.pq := rfl
@[simp] theorem State.popTq_nextHandle : (s.popTq).nextHandle = s.nextHandle := rfl
@[simp] theorem State.popTq_fired : (s.popTq).fired = s.fired := rfl
@[simp] theorem State.popTq_prod : (s.popTq).prod = s.prod := rfl
@[simp] theorem State.popTq_result : (s.popTq).result = s.result := rfl
@[simp] theorem State.popTq_abortArmed : (s.popTq).abortArmed = s.abortArmed := rfl
@[simp] theorem State.popTq_donePin : (s.popTq).donePin = s.donePin := rfl
@[simp] theorem State.popTq_agenda : (s.popTq).agenda = s.agenda := rfl
@[simp] theorem State.popTq_report : (s.popTq).report = s.report := rfl
@[simp] theorem State.popTq_freeCount : (s.popTq).freeCount = s.freeCount := rfl

end

section
variable (s : State)

@[simp] theorem State.popPq_params : (s.popPq).params = s.params := rfl
@[simp] theorem State.popPq_carrier : (s.popPq).carrier = s.carrier := rfl
@[simp] theorem State.popPq_seg : (s.popPq).seg = s.seg := rfl
@[simp] theorem State.popPq_phase : (s.popPq).phase = s.phase := rfl
@[simp] theorem State.popPq_switchNext : (s.popPq).switchNext = s.switchNext := rfl
@[simp] theorem State.popPq_cellValid : (s.popPq).cellValid = s.cellValid := rfl
@[simp] theorem State.popPq_lastCell : (s.popPq).lastCell = s.lastCell := rfl
@[simp] theorem State.popPq_fallEn : (s.popPq).fallEn = s.fallEn := rfl
@[simp] theorem State.popPq_riseEn : (s.popPq).riseEn = s.riseEn := rfl
@[simp] theorem State.popPq_cancel : (s.popPq).cancel = s.cancel := rfl
@[simp] theorem State.popPq_fault : (s.popPq).fault = s.fault := rfl
@[simp] theorem State.popPq_acc : (s.popPq).acc = s.acc := rfl
@[simp] theorem State.popPq_fill : (s.popPq).fill = s.fill := rfl
@[simp] theorem State.popPq_lastZero : (s.popPq).lastZero = s.lastZero := rfl
@[simp] theorem State.popPq_tq : (s.popPq).tq = s.tq := rfl
@[simp] theorem State.popPq_pq : (s.popPq).pq = s.pq.tail := rfl
@[simp] theorem State.popPq_nextHandle : (s.popPq).nextHandle = s.nextHandle := rfl
@[simp] theorem State.popPq_fired : (s.popPq).fired = s.fired := rfl
@[simp] theorem State.popPq_prod : (s.popPq).prod = s.prod := rfl
@[simp] theorem State.popPq_result : (s.popPq).result = s.result := rfl
@[simp] theorem State.popPq_abortArmed : (s.popPq).abortArmed = s.abortArmed := rfl
@[simp] theorem State.popPq_donePin : (s.popPq).donePin = s.donePin := rfl
@[simp] theorem State.popPq_agenda : (s.popPq).agenda = s.agenda := rfl
@[simp] theorem State.popPq_report : (s.popPq).report = s.report := rfl
@[simp] theorem State.popPq_freeCount : (s.popPq).freeCount = s.freeCount := rfl

end

section
variable (s : State) (h : Handle)

@[simp] theorem State.fire_params : (s.fire h).params = s.params := rfl
@[simp] theorem State.fire_carrier : (s.fire h).carrier = s.carrier := rfl
@[simp] theorem State.fire_seg : (s.fire h).seg = s.seg := rfl
@[simp] theorem State.fire_phase : (s.fire h).phase = s.phase := rfl
@[simp] theorem State.fire_switchNext : (s.fire h).switchNext = s.switchNext := rfl
@[simp] theorem State.fire_cellValid : (s.fire h).cellValid = s.cellValid := rfl
@[simp] theorem State.fire_lastCell : (s.fire h).lastCell = s.lastCell := rfl
@[simp] theorem State.fire_fallEn : (s.fire h).fallEn = s.fallEn := rfl
@[simp] theorem State.fire_riseEn : (s.fire h).riseEn = s.riseEn := rfl
@[simp] theorem State.fire_cancel : (s.fire h).cancel = s.cancel := rfl
@[simp] theorem State.fire_fault : (s.fire h).fault = s.fault := rfl
@[simp] theorem State.fire_acc : (s.fire h).acc = s.acc := rfl
@[simp] theorem State.fire_fill : (s.fire h).fill = s.fill := rfl
@[simp] theorem State.fire_lastZero : (s.fire h).lastZero = s.lastZero := rfl
@[simp] theorem State.fire_tq : (s.fire h).tq = s.tq := rfl
@[simp] theorem State.fire_pq : (s.fire h).pq = s.pq := rfl
@[simp] theorem State.fire_nextHandle : (s.fire h).nextHandle = s.nextHandle := rfl
@[simp] theorem State.fire_fired : (s.fire h).fired = s.fired ||| handleBit h := rfl
@[simp] theorem State.fire_prod : (s.fire h).prod = s.prod := rfl
@[simp] theorem State.fire_result : (s.fire h).result = s.result := rfl
@[simp] theorem State.fire_abortArmed : (s.fire h).abortArmed = s.abortArmed := rfl
@[simp] theorem State.fire_donePin : (s.fire h).donePin = s.donePin := rfl
@[simp] theorem State.fire_agenda : (s.fire h).agenda = s.agenda := rfl
@[simp] theorem State.fire_report : (s.fire h).report = s.report := rfl
@[simp] theorem State.fire_freeCount : (s.fire h).freeCount = s.freeCount := rfl

end

section
variable (s : State)

@[simp] theorem State.alloc_params : (s.alloc).params = s.params := rfl
@[simp] theorem State.alloc_carrier : (s.alloc).carrier = s.carrier := rfl
@[simp] theorem State.alloc_seg : (s.alloc).seg = s.seg := rfl
@[simp] theorem State.alloc_phase : (s.alloc).phase = s.phase := rfl
@[simp] theorem State.alloc_switchNext : (s.alloc).switchNext = s.switchNext := rfl
@[simp] theorem State.alloc_cellValid : (s.alloc).cellValid = s.cellValid := rfl
@[simp] theorem State.alloc_lastCell : (s.alloc).lastCell = s.lastCell := rfl
@[simp] theorem State.alloc_fallEn : (s.alloc).fallEn = s.fallEn := rfl
@[simp] theorem State.alloc_riseEn : (s.alloc).riseEn = s.riseEn := rfl
@[simp] theorem State.alloc_cancel : (s.alloc).cancel = s.cancel := rfl
@[simp] theorem State.alloc_fault : (s.alloc).fault = s.fault := rfl
@[simp] theorem State.alloc_acc : (s.alloc).acc = s.acc := rfl
@[simp] theorem State.alloc_fill : (s.alloc).fill = s.fill := rfl
@[simp] theorem State.alloc_lastZero : (s.alloc).lastZero = s.lastZero := rfl
@[simp] theorem State.alloc_tq : (s.alloc).tq = s.tq := rfl
@[simp] theorem State.alloc_pq : (s.alloc).pq = s.pq := rfl
@[simp] theorem State.alloc_nextHandle : (s.alloc).nextHandle = s.nextHandle + 1#8 := rfl
@[simp] theorem State.alloc_fired : (s.alloc).fired = s.fired &&& ~~~(handleBit s.nextHandle) := rfl
@[simp] theorem State.alloc_prod : (s.alloc).prod = s.prod := rfl
@[simp] theorem State.alloc_result : (s.alloc).result = s.result := rfl
@[simp] theorem State.alloc_abortArmed : (s.alloc).abortArmed = s.abortArmed := rfl
@[simp] theorem State.alloc_donePin : (s.alloc).donePin = s.donePin := rfl
@[simp] theorem State.alloc_agenda : (s.alloc).agenda = s.agenda := rfl
@[simp] theorem State.alloc_report : (s.alloc).report = s.report := rfl
@[simp] theorem State.alloc_freeCount : (s.alloc).freeCount = s.freeCount := rfl

end

section
variable (s : State) (g : Segment)

@[simp] theorem State.setSeg_params : (s.setSeg g).params = s.params := rfl
@[simp] theorem State.setSeg_carrier : (s.setSeg g).carrier = s.carrier := rfl
@[simp] theorem State.setSeg_seg : (s.setSeg g).seg = g := rfl
@[simp] theorem State.setSeg_phase : (s.setSeg g).phase = s.phase := rfl
@[simp] theorem State.setSeg_switchNext : (s.setSeg g).switchNext = s.switchNext := rfl
@[simp] theorem State.setSeg_cellValid : (s.setSeg g).cellValid = s.cellValid := rfl
@[simp] theorem State.setSeg_lastCell : (s.setSeg g).lastCell = s.lastCell := rfl
@[simp] theorem State.setSeg_fallEn : (s.setSeg g).fallEn = s.fallEn := rfl
@[simp] theorem State.setSeg_riseEn : (s.setSeg g).riseEn = s.riseEn := rfl
@[simp] theorem State.setSeg_cancel : (s.setSeg g).cancel = s.cancel := rfl
@[simp] theorem State.setSeg_fault : (s.setSeg g).fault = s.fault := rfl
@[simp] theorem State.setSeg_acc : (s.setSeg g).acc = s.acc := rfl
@[simp] theorem State.setSeg_fill : (s.setSeg g).fill = s.fill := rfl
@[simp] theorem State.setSeg_lastZero : (s.setSeg g).lastZero = s.lastZero := rfl
@[simp] theorem State.setSeg_tq : (s.setSeg g).tq = s.tq := rfl
@[simp] theorem State.setSeg_pq : (s.setSeg g).pq = s.pq := rfl
@[simp] theorem State.setSeg_nextHandle : (s.setSeg g).nextHandle = s.nextHandle := rfl
@[simp] theorem State.setSeg_fired : (s.setSeg g).fired = s.fired := rfl
@[simp] theorem State.setSeg_prod : (s.setSeg g).prod = s.prod := rfl
@[simp] theorem State.setSeg_result : (s.setSeg g).result = s.result := rfl
@[simp] theorem State.setSeg_abortArmed : (s.setSeg g).abortArmed = s.abortArmed := rfl
@[simp] theorem State.setSeg_donePin : (s.setSeg g).donePin = s.donePin := rfl
@[simp] theorem State.setSeg_agenda : (s.setSeg g).agenda = s.agenda := rfl
@[simp] theorem State.setSeg_report : (s.setSeg g).report = s.report := rfl
@[simp] theorem State.setSeg_freeCount : (s.setSeg g).freeCount = s.freeCount := rfl

end

section
variable (s : State) (p : Prod)

@[simp] theorem State.setProd_params : (s.setProd p).params = s.params := rfl
@[simp] theorem State.setProd_carrier : (s.setProd p).carrier = s.carrier := rfl
@[simp] theorem State.setProd_seg : (s.setProd p).seg = s.seg := rfl
@[simp] theorem State.setProd_phase : (s.setProd p).phase = s.phase := rfl
@[simp] theorem State.setProd_switchNext : (s.setProd p).switchNext = s.switchNext := rfl
@[simp] theorem State.setProd_cellValid : (s.setProd p).cellValid = s.cellValid := rfl
@[simp] theorem State.setProd_lastCell : (s.setProd p).lastCell = s.lastCell := rfl
@[simp] theorem State.setProd_fallEn : (s.setProd p).fallEn = s.fallEn := rfl
@[simp] theorem State.setProd_riseEn : (s.setProd p).riseEn = s.riseEn := rfl
@[simp] theorem State.setProd_cancel : (s.setProd p).cancel = s.cancel := rfl
@[simp] theorem State.setProd_fault : (s.setProd p).fault = s.fault := rfl
@[simp] theorem State.setProd_acc : (s.setProd p).acc = s.acc := rfl
@[simp] theorem State.setProd_fill : (s.setProd p).fill = s.fill := rfl
@[simp] theorem State.setProd_lastZero : (s.setProd p).lastZero = s.lastZero := rfl
@[simp] theorem State.setProd_tq : (s.setProd p).tq = s.tq := rfl
@[simp] theorem State.setProd_pq : (s.setProd p).pq = s.pq := rfl
@[simp] theorem State.setProd_nextHandle : (s.setProd p).nextHandle = s.nextHandle := rfl
@[simp] theorem State.setProd_fired : (s.setProd p).fired = s.fired := rfl
@[simp] theorem State.setProd_prod : (s.setProd p).prod = p := rfl
@[simp] theorem State.setProd_result : (s.setProd p).result = s.result := rfl
@[simp] theorem State.setProd_abortArmed : (s.setProd p).abortArmed = s.abortArmed := rfl
@[simp] theorem State.setProd_donePin : (s.setProd p).donePin = s.donePin := rfl
@[simp] theorem State.setProd_agenda : (s.setProd p).agenda = s.agenda := rfl
@[simp] theorem State.setProd_report : (s.setProd p).report = s.report := rfl
@[simp] theorem State.setProd_freeCount : (s.setProd p).freeCount = s.freeCount := rfl

end

section
variable (s : State) (n : Nat) (e : Bool)

@[simp] theorem State.complete_params : (s.complete n e).params = s.params := rfl
@[simp] theorem State.complete_carrier : (s.complete n e).carrier = s.carrier := rfl
@[simp] theorem State.complete_seg : (s.complete n e).seg = s.seg := rfl
@[simp] theorem State.complete_phase : (s.complete n e).phase = s.phase := rfl
@[simp] theorem State.complete_switchNext : (s.complete n e).switchNext = s.switchNext := rfl
@[simp] theorem State.complete_cellValid : (s.complete n e).cellValid = s.cellValid := rfl
@[simp] theorem State.complete_lastCell : (s.complete n e).lastCell = s.lastCell := rfl
@[simp] theorem State.complete_fallEn : (s.complete n e).fallEn = s.fallEn := rfl
@[simp] theorem State.complete_riseEn : (s.complete n e).riseEn = s.riseEn := rfl
@[simp] theorem State.complete_cancel : (s.complete n e).cancel = s.cancel := rfl
@[simp] theorem State.complete_fault : (s.complete n e).fault = s.fault := rfl
@[simp] theorem State.complete_acc : (s.complete n e).acc = s.acc := rfl
@[simp] theorem State.complete_fill : (s.complete n e).fill = s.fill := rfl
@[simp] theorem State.complete_lastZero : (s.complete n e).lastZero = s.lastZero := rfl
@[simp] theorem State.complete_tq : (s.complete n e).tq = s.tq := rfl
@[simp] theorem State.complete_pq : (s.complete n e).pq = s.pq := rfl
@[simp] theorem State.complete_nextHandle : (s.complete n e).nextHandle = s.nextHandle := rfl
@[simp] theorem State.complete_fired : (s.complete n e).fired = s.fired := rfl
@[simp] theorem State.complete_prod : (s.complete n e).prod = .idle := rfl
@[simp] theorem State.complete_result : (s.complete n e).result = { n := n, err := e } := rfl
@[simp] theorem State.complete_abortArmed : (s.complete n e).abortArmed = s.abortArmed := rfl
@[simp] theorem State.complete_donePin : (s.complete n e).donePin = s.donePin := rfl
@[simp] theorem State.complete_agenda : (s.complete n e).agenda = s.agenda := rfl
@[simp] theorem State.complete_report : (s.complete n e).report = .completed n e := rfl
@[simp] theorem State.complete_freeCount : (s.complete n e).freeCount = s.freeCount := rfl

end

section
variable (s : State) (c : BitVec 2)

@[simp] theorem State.raise_params : (s.raise c).params = s.params := rfl
@[simp] theorem State.raise_carrier : (s.raise c).carrier = s.carrier := rfl
@[simp] theorem State.raise_seg : (s.raise c).seg = s.seg := rfl
@[simp] theorem State.raise_phase : (s.raise c).phase = s.phase := rfl
@[simp] theorem State.raise_switchNext : (s.raise c).switchNext = s.switchNext := rfl
@[simp] theorem State.raise_cellValid : (s.raise c).cellValid = s.cellValid := rfl
@[simp] theorem State.raise_lastCell : (s.raise c).lastCell = s.lastCell := rfl
@[simp] theorem State.raise_fallEn : (s.raise c).fallEn = s.fallEn := rfl
@[simp] theorem State.raise_riseEn : (s.raise c).riseEn = s.riseEn := rfl
@[simp] theorem State.raise_cancel : (s.raise c).cancel = s.cancel := rfl
@[simp] theorem State.raise_fault : (s.raise c).fault = c := rfl
@[simp] theorem State.raise_acc : (s.raise c).acc = s.acc := rfl
@[simp] theorem State.raise_fill : (s.raise c).fill = s.fill := rfl
@[simp] theorem State.raise_lastZero : (s.raise c).lastZero = s.lastZero := rfl
@[simp] theorem State.raise_tq : (s.raise c).tq = s.tq := rfl
@[simp] theorem State.raise_pq : (s.raise c).pq = s.pq := rfl
@[simp] theorem State.raise_nextHandle : (s.raise c).nextHandle = s.nextHandle := rfl
@[simp] theorem State.raise_fired : (s.raise c).fired = s.fired := rfl
@[simp] theorem State.raise_prod : (s.raise c).prod = s.prod := rfl
@[simp] theorem State.raise_result : (s.raise c).result = s.result := rfl
@[simp] theorem State.raise_abortArmed : (s.raise c).abortArmed = s.abortArmed := rfl
@[simp] theorem State.raise_donePin : (s.raise c).donePin = s.donePin := rfl
@[simp] theorem State.raise_agenda : (s.raise c).agenda = s.agenda := rfl
@[simp] theorem State.raise_report : (s.raise c).report = .faulted := rfl
@[simp] theorem State.raise_freeCount : (s.raise c).freeCount = s.freeCount := rfl

end

section
variable (s : State)

@[simp] theorem setCancel_params : (setCancel s).params = s.params := rfl
@[simp] theorem setCancel_carrier : (setCancel s).carrier = s.carrier := rfl
@[simp] theorem setCancel_seg : (setCancel s).seg = s.seg := rfl
@[simp] theorem setCancel_phase : (setCancel s).phase = s.phase := rfl
@[simp] theorem setCancel_switchNext : (setCancel s).switchNext = s.switchNext := rfl
@[simp] theorem setCancel_cellValid : (setCancel s).cellValid = s.cellValid := rfl
@[simp] theorem setCancel_lastCell : (setCancel s).lastCell = s.lastCell := rfl
@[simp] theorem setCancel_fallEn : (setCancel s).fallEn = s.fallEn := rfl
@[simp] theorem setCancel_riseEn : (setCancel s).riseEn = s.riseEn := rfl
@[simp] theorem setCancel_cancel : (setCancel s).cancel = true := rfl
@[simp] theorem setCancel_fault : (setCancel s).fault = s.fault := rfl
@[simp] theorem setCancel_acc : (setCancel s).acc = s.acc := rfl
@[simp] theorem setCancel_fill : (setCancel s).fill = s.fill := rfl
@[simp] theorem setCancel_lastZero : (setCancel s).lastZero = s.lastZero := rfl
@[simp] theorem setCancel_tq : (setCancel s).tq = s.tq := rfl
@[simp] theorem setCancel_pq : (setCancel s).pq = s.pq := rfl
@[simp] theorem setCancel_nextHandle : (setCancel s).nextHandle = s.nextHandle := rfl
@[simp] theorem setCancel_fired : (setCancel s).fired = s.fired := rfl
@[simp] theorem setCancel_prod : (setCancel s).prod = s.prod := rfl
@[simp] theorem setCancel_result : (setCancel s).result = s.result := rfl
@[simp] theorem setCancel_abortArmed : (setCancel s).abortArmed = s.abortArmed := rfl
@[simp] theorem setCancel_donePin : (setCancel s).donePin = s.donePin := rfl
@[simp] theorem setCancel_agenda : (setCancel s).agenda = s.agenda := rfl
@[simp] theorem setCancel_report : (setCancel s).report = s.report := rfl
@[simp] theorem setCancel_freeCount : (setCancel s).freeCount = s.freeCount := rfl

end

section
variable (s : State)

@[simp] theorem setArmed_params : (setArmed s).params = s.params := rfl
@[simp] theorem setArmed_carrier : (setArmed s).carrier = s.carrier := rfl
@[simp] theorem setArmed_seg : (setArmed s).seg = s.seg := rfl
@[simp] theorem setArmed_phase : (setArmed s).phase = s.phase := rfl
@[simp] theorem setArmed_switchNext : (setArmed s).switchNext = s.switchNext := rfl
@[simp] theorem setArmed_cellValid : (setArmed s).cellValid = s.cellValid := rfl
@[simp] theorem setArmed_lastCell : (setArmed s).lastCell = s.lastCell := rfl
@[simp] theorem setArmed_fallEn : (setArmed s).fallEn = s.fallEn := rfl
@[simp] theorem setArmed_riseEn : (setArmed s).riseEn = s.riseEn := rfl
@[simp] theorem setArmed_cancel : (setArmed s).cancel = s.cancel := rfl
@[simp] theorem setArmed_fault : (setArmed s).fault = s.fault := rfl
@[simp] theorem setArmed_acc : (setArmed s).acc = s.acc := rfl
@[simp] theorem setArmed_fill : (setArmed s).fill = s.fill := rfl
@[simp] theorem setArmed_lastZero : (setArmed s).lastZero = s.lastZero := rfl
@[simp] theorem setArmed_tq : (setArmed s).tq = s.tq := rfl
@[simp] theorem setArmed_pq : (setArmed s).pq = s.pq := rfl
@[simp] theorem setArmed_nextHandle : (setArmed s).nextHandle = s.nextHandle := rfl
@[simp] theorem setArmed_fired : (setArmed s).fired = s.fired := rfl
@[simp] theorem setArmed_prod : (setArmed s).prod = s.prod := rfl
@[simp] theorem setArmed_result : (setArmed s).result = s.result := rfl
@[simp] theorem setArmed_abortArmed : (setArmed s).abortArmed = true := rfl
@[simp] theorem setArmed_donePin : (setArmed s).donePin = s.donePin := rfl
@[simp] theorem setArmed_agenda : (setArmed s).agenda = s.agenda := rfl
@[simp] theorem setArmed_report : (setArmed s).report = s.report := rfl
@[simp] theorem setArmed_freeCount : (setArmed s).freeCount = s.freeCount := rfl

end

section
variable (s : State)

@[simp] theorem State.applyReset_params : (s.applyReset).params = s.params := rfl
@[simp] theorem State.applyReset_carrier : (s.applyReset).carrier = s.carrier := rfl
@[simp] theorem State.applyReset_seg : (s.applyReset).seg = .off false := rfl
@[simp] theorem State.applyReset_phase : (s.applyReset).phase = false := rfl
@[simp] theorem State.applyReset_switchNext : (s.applyReset).switchNext = true := rfl
@[simp] theorem State.applyReset_cellValid : (s.applyReset).cellValid = false := rfl
@[simp] theorem State.applyReset_lastCell : (s.applyReset).lastCell = Config.freeLastCell s.freeCount := rfl
@[simp] theorem State.applyReset_fallEn : (s.applyReset).fallEn = false := rfl
@[simp] theorem State.applyReset_riseEn : (s.applyReset).riseEn = false := rfl
@[simp] theorem State.applyReset_cancel : (s.applyReset).cancel = false := rfl
@[simp] theorem State.applyReset_fault : (s.applyReset).fault = 0#2 := rfl
@[simp] theorem State.applyReset_acc : (s.applyReset).acc = 0#8 := rfl
@[simp] theorem State.applyReset_fill : (s.applyReset).fill = 0 := rfl
@[simp] theorem State.applyReset_lastZero : (s.applyReset).lastZero = false := rfl
@[simp] theorem State.applyReset_tq : (s.applyReset).tq = [] := rfl
@[simp] theorem State.applyReset_pq : (s.applyReset).pq = [] := rfl
@[simp] theorem State.applyReset_nextHandle : (s.applyReset).nextHandle = 0#8 := rfl
@[simp] theorem State.applyReset_fired : (s.applyReset).fired = 0#256 := rfl
@[simp] theorem State.applyReset_prod : (s.applyReset).prod = .idle := rfl
@[simp] theorem State.applyReset_result : (s.applyReset).result = { n := Config.freeResultCount s.freeCount, err := Config.freeResultErr s.freeCount } := rfl
@[simp] theorem State.applyReset_abortArmed : (s.applyReset).abortArmed = false := rfl
@[simp] theorem State.applyReset_donePin : (s.applyReset).donePin = s.donePin := rfl
@[simp] theorem State.applyReset_agenda : (s.applyReset).agenda = s.agenda := rfl
@[simp] theorem State.applyReset_report : (s.applyReset).report = .done := rfl
@[simp] theorem State.applyReset_freeCount : (s.applyReset).freeCount = s.freeCount + 1 := rfl

end

end Sys2Proof.Machine
end

