-- ==== Sys2Proof/Laws/Ops.lean ====
section
/-! SUPPORT. For each shared operation, once, everything it can do: proofs cite these lemmas and unfold no operation. -/

namespace Sys2Proof.Machine

/-! ### Conditions of the steps -/

theorem packReady_iff (s : State) : s.packReady = true ↔ s.fault = 0#2 ∧ s.cancel = false ∧ 3 ≤ s.pqFree := by
  simp [State.packReady, and_assoc]

theorem seqReady_iff (s : State) : s.seqReady = true ↔ s.fault = 0#2 ∧ s.cancel = false ∧ polls s.seg = true := by
  simp [State.seqReady, and_assoc]

theorem startReady_iff (s : State) : s.startReady = true ↔ s.fault = 0#2 ∧ s.prod = .idle := by
  simp [State.startReady]

theorem packing_cases (s : State) (act : State → State) :
    (s.packReady = true ∧ packing s act = .next (act (s.popTq.note .done))) ∨
    (s.packReady = false ∧ packing s act = .next s.notEnabled) := by
  cases h : s.packReady <;> simp [packing, h]

theorem advancing_cases (s : State) (act : State → State) :
    (s.seqReady = true ∧ advancing s act = .next (act (s.popPq.note .done))) ∨
    (s.seqReady = false ∧ advancing s act = .next s.notEnabled) := by
  cases h : s.seqReady <;> simp [advancing, h]

theorem unlessFaulted_cases (s : State) (act : State → State) :
    (s.fault = 0#2 ∧ unlessFaulted s act = .next (act (s.note .done))) ∨
    (s.fault ≠ 0#2 ∧ unlessFaulted s act = .next s.notEnabled) := by
  by_cases h : s.fault = 0#2 <;> simp [unlessFaulted, h]

theorem starting_cases (s : State) (op : Handle → Prod) :
    (s.startReady = true ∧ s.cancel = true ∧ starting s op = .next (s.complete 0 true)) ∨
    (s.startReady = true ∧ s.cancel = false ∧
      ∃ h k, starting s op = .next { (s.setProd (op h)).note .done with freeCount := k }) ∨
    (s.startReady = false ∧ starting s op = .next s.notEnabled) := by
  cases h : s.startReady <;> cases hc : s.cancel
  · simp [starting, h]
  · simp [starting, h]
  · exact .inr (.inl ⟨rfl, rfl, Config.freeHandle s.freeCount, s.freeCount + 1, by simp [starting, h, hc]⟩)
  · simp [starting, h, hc]

/-! ### Handles -/

theorem getLsbD_handleBit (h : Handle) (k : Nat) : (handleBit h).getLsbD k = decide (k = h.toNat) := by
  have hlt : h.toNat < 256 := h.isLt
  simp only [handleBit, BitVec.getLsbD_shiftLeft, BitVec.getLsbD_one]
  by_cases hk : k = h.toNat
  · subst hk; simp [hlt]
  · by_cases hlt2 : k < h.toNat
    · simp [hlt2, hk]
    · have h0 : ¬ k - h.toNat = 0 := by omega
      simp [hk, h0]

theorem isFired_fire (s : State) (h g : Handle) : (s.fire h).isFired g = (s.isFired g || decide (g = h)) := by
  simp [State.isFired, getLsbD_handleBit, BitVec.toNat_inj]

theorem isFired_alloc (s : State) (g : Handle) :
    s.alloc.isFired g = (s.isFired g && !decide (g = s.nextHandle)) := by
  have hlt : g.toNat < 256 := g.isLt
  simp only [State.isFired, State.alloc_fired, BitVec.getLsbD_and, BitVec.getLsbD_not, getLsbD_handleBit, hlt,
    decide_true, Bool.true_and, BitVec.toNat_inj]

/-! ### Packer -/

/-- What the packer may change, and that it only appends to `PQ`. -/
def OnlyPacks (s s' : State) : Prop :=
  ∃ acc fill lz ws, s' = { s with acc := acc, fill := fill, lastZero := lz, pq := s.pq ++ ws }

theorem OnlyPacks.refl (s : State) : OnlyPacks s s := ⟨s.acc, s.fill, s.lastZero, [], by simp⟩

theorem OnlyPacks.trans {a b c : State} (h : OnlyPacks a b) (k : OnlyPacks b c) : OnlyPacks a c := by
  obtain ⟨_, _, _, ws, rfl⟩ := h
  obtain ⟨x, y, z, vs, rfl⟩ := k
  exact ⟨x, y, z, ws ++ vs, by simp⟩

/-- The accumulator after one bit enters at bit 0. -/
def accAfter (b : Bool) (acc : Byte) : Byte := (acc <<< 1) ||| (BitVec.ofBool b).zeroExtend 8

theorem shiftIn_full (b : Bool) (s : State) (h : s.fill + 1 = 8) :
    shiftIn b s =
      { s with pq := s.pq ++ [puWord 0#3 (accAfter b s.acc)], acc := 0#8, fill := 0, lastZero := !b } := by
  simp [shiftIn, h, State.pushPq, accAfter]

theorem shiftIn_room (b : Bool) (s : State) (h : s.fill + 1 ≠ 8) :
    shiftIn b s = { s with acc := accAfter b s.acc, fill := s.fill + 1, lastZero := !b } := by
  simp [shiftIn, h, accAfter]

theorem shiftIn_onlyPacks (b : Bool) (s : State) : OnlyPacks s (shiftIn b s) := by
  by_cases h : s.fill + 1 = 8
  · exact ⟨0, 0, !b, [puWord 0#3 (accAfter b s.acc)], shiftIn_full b s h⟩
  · exact ⟨accAfter b s.acc, s.fill + 1, !b, [], by simp [shiftIn_room b s h]⟩

theorem packBits_onlyPacks (p : BitVec 16) (n : Nat) (s : State) : OnlyPacks s (packBits p n s) := by
  induction n generalizing s with
  | zero => exact OnlyPacks.refl s
  | succ n ih =>
    simp only [packBits]
    split
    · exact shiftIn_onlyPacks _ s
    · exact (shiftIn_onlyPacks _ s).trans (ih _)

theorem flush_cases (s : State) :
    (s.fill = 0 ∧ flush s = s) ∨
    (s.fill ≠ 0 ∧ gapAfter s.params.extraGap (paddedUnit s) = false ∧
      flush s = { s with acc := 0#8, fill := 0, pq := s.pq ++ [puWord 0#3 (paddedUnit s)] }) ∨
    (s.fill ≠ 0 ∧ gapAfter s.params.extraGap (paddedUnit s) = true ∧
      flush s = { s with acc := 0#8, fill := 0, pq := s.pq ++ [puWord 0#3 (paddedUnit s), puWord 0#3 0#8] }) := by
  by_cases h : s.fill = 0
  · exact .inl ⟨h, by simp [flush, h]⟩
  · cases hg : gapAfter s.params.extraGap (paddedUnit s)
    · exact .inr (.inl ⟨h, rfl, by simp [flush, h, hg, State.pushPq]⟩)
    · exact .inr (.inr ⟨h, rfl, by simp [flush, h, hg, State.pushPq]⟩)

theorem flush_onlyPacks (s : State) : OnlyPacks s (flush s) := by
  obtain ⟨-, e⟩ | ⟨-, -, e⟩ | ⟨-, -, e⟩ := flush_cases s
  · rw [e]; exact OnlyPacks.refl s
  · exact ⟨0, 0, s.lastZero, _, e⟩
  · exact ⟨0, 0, s.lastZero, _, e⟩

theorem packMarker_onlyPacks (g : Tag) (d : Byte) (s : State) : OnlyPacks s (packMarker g d s) :=
  (flush_onlyPacks s).trans ⟨(flush s).acc, (flush s).fill, (flush s).lastZero, [puWord g d], rfl⟩

/-! ### Sequencer -/

/-- Part 1 of a SAMPLE step: the pin, nothing, the close of an exhausted End, an empty queue, or one word acted on. -/
theorem sequencerPart_cases (s : State) :
    (s.cancel = true ∧ sequencerPart s = s.setSeg (.off true)) ∨
    (s.cancel = false ∧ needNext s.seg = false ∧ sequencerPart s = s) ∨
    (s.cancel = false ∧ (∃ r h, s.seg = .ending r h true) ∧ sequencerPart s = s.setSeg (.off true)) ∨
    (s.cancel = false ∧ polls s.seg = true ∧ s.pq = [] ∧ sequencerPart s = s) ∨
    (s.cancel = false ∧ polls s.seg = true ∧
      ∃ w ws, s.pq = w :: ws ∧ sequencerPart s = seqDispatch (decodePu w) s.popPq) := by
  cases hc : s.cancel
  · cases hn : needNext s.seg
    · simp [sequencerPart, hc, hn]
    · rcases hs : s.seg with c | ⟨r, h, e⟩ | ⟨u, k, e⟩ | ⟨r, h, e⟩ <;>
        rcases hq : s.pq with _ | ⟨w, ws⟩ <;>
        simp_all [sequencerPart, seqAdvance, needNext, polls]
  · simp [sequencerPart, hc]

/-- The popped word's action, row by row of R144 (a polling segment is never End). -/
theorem seqDispatch_cases (i : Instr) (s : State) :
    seqDispatch i s = s ∨ (∃ g, seqDispatch i s = s.setSeg g) ∨ (∃ h, seqDispatch i s = s.fire h) ∨
    (∃ h, seqDispatch i s = (s.fire h).setSeg (.off true)) ∨ (∃ c, (c = 1#2 ∨ c = 2#2) ∧ seqDispatch i s = s.raise c) := by
  cases i <;> rcases hs : s.seg with c | ⟨r, h, e⟩ | ⟨u, k, e⟩ | ⟨r, h, e⟩ <;>
    simp only [seqDispatch, seqUnit, seqPre, seqEom, seqEos, seqRsvd, hs, true_or] <;> first
      | exact .inr (.inl ⟨_, rfl⟩)
      | exact .inr (.inr (.inl ⟨_, rfl⟩))
      | exact .inr (.inr (.inr (.inl ⟨_, rfl⟩)))
      | exact .inr (.inr (.inr (.inr ⟨_, .inl rfl, rfl⟩)))
      | exact .inr (.inr (.inr (.inr ⟨_, .inr rfl, rfl⟩)))

/-- A boundary tick changes the segment and `FIRED` only. -/
theorem segTick_only (s : State) : ∃ g f, segTick s = { s with seg := g, fired := f } := by
  simp only [segTick]
  split
  · exact ⟨s.seg, s.fired, rfl⟩
  · split
    · exact ⟨_, _, rfl⟩
    · exact ⟨_, s.fired, rfl⟩
  · exact ⟨_, s.fired, rfl⟩
  · split
    · exact ⟨s.seg, s.fired, rfl⟩
    · split
      · exact ⟨_, _, rfl⟩
      · exact ⟨_, s.fired, rfl⟩

/-! ### Synthesizer -/

theorem rasterTick_cases (t : Time) (s : State) :
    (s.ticksAt t = false ∧ rasterTick t s = s) ∨
    (s.ticksAt t = true ∧ s.switchNext = true ∧ rasterTick t s =
      boundaryTick { s with lastCell := cellOf s.params t, cellValid := true, switchNext := false }) ∨
    (s.ticksAt t = true ∧ s.switchNext = false ∧ rasterTick t s =
      midTick { s with lastCell := cellOf s.params t, cellValid := true, switchNext := true }) := by
  cases h : s.ticksAt t <;> cases hs : s.switchNext <;> simp [rasterTick, h, hs]

theorem boundaryTick_only (s : State) : ∃ g f, boundaryTick s =
    { s with seg := g, fired := f, phase := xor s.phase (segFlip s.seg), riseEn := s.fallEn || segFlip s.seg } := by
  obtain ⟨g, f, e⟩ := segTick_only s
  exact ⟨g, f, by simp [boundaryTick, e]⟩

theorem sampleStep_cases (t : Time) (s : State) :
    ((sequencerPart s).fault ≠ 0#2 ∧ sampleStep t s = sequencerPart s) ∨
    ((sequencerPart s).fault = 0#2 ∧ sampleStep t s = samplePart t (sequencerPart s)) := by
  by_cases h : (sequencerPart s).fault = 0#2 <;> simp [sampleStep, h]

/-! ### Producer -/

theorem pushMarker_cases (s : State) (g : Tag) (next : Handle → Prod) :
    (1 ≤ s.tqFree ∧ pushMarker s g next =
      (((s.alloc.pushTq (tokMarker g s.nextHandle)).setProd (next s.nextHandle)).note .done)) ∨
    (s.tqFree = 0 ∧ pushMarker s g next = s.notEnabled) := by
  by_cases h : 1 ≤ s.tqFree
  · exact .inl ⟨h, by simp only [pushMarker, h, if_true]⟩
  · exact .inr ⟨by omega, by simp only [pushMarker, h, if_false]⟩

/-- A PROD_STEP does nothing, completes the operation, moves the stage, or pushes one token (with or without a handle). -/
theorem prodStep_cases (s : State) :
    prodStep s = s.notEnabled ∨ (∃ n e, prodStep s = s.complete n e) ∨
    (∃ p, prodStep s = (s.setProd p).note .done) ∨
    (1 ≤ s.tqFree ∧ ∃ p w, prodStep s = ((s.pushTq w).setProd p).note .done) ∨
    (1 ≤ s.tqFree ∧ ∃ g p, prodStep s = (((s.alloc.pushTq (tokMarker g s.nextHandle)).setProd p).note .done)) := by
  have marker : ∀ g next, prodStep s = pushMarker s g next → prodStep s = s.notEnabled ∨
      (1 ≤ s.tqFree ∧ ∃ g p, prodStep s = (((s.alloc.pushTq (tokMarker g s.nextHandle)).setProd p).note .done)) := by
    intro g next e
    rw [e]
    obtain ⟨h, e'⟩ | ⟨-, e'⟩ := pushMarker_cases s g next
    · exact .inr ⟨h, g, _, e'⟩
    · exact .inl e'
  by_cases hf : s.fault = 0#2
  · rcases hp : s.prod with _ | ⟨bytes, idx, st, h⟩ | ⟨st, h⟩
    · exact .inl (by simp [prodStep, hf, hp])
    · cases hc : s.cancel
      · cases st
        · obtain e | e := marker 1#3 (fun _ => .write bytes idx .data h) (by simp [prodStep, hf, hp, hc, writeStage])
          exacts [.inl e, .inr (.inr (.inr (.inr e)))]
        · have e : prodStep s = writeData s bytes idx h := by simp [prodStep, hf, hp, hc, writeStage]
          rw [e, writeData]
          split
          · exact .inr (.inr (.inl ⟨_, rfl⟩))
          · split
            · exact .inr (.inr (.inl ⟨_, rfl⟩))
            · split
              · exact .inr (.inr (.inr (.inl ⟨by assumption, _, _, rfl⟩)))
              · exact .inl rfl
        · obtain e | e := marker 2#3 (.write bytes idx .wait) (by simp [prodStep, hf, hp, hc, writeStage])
          exacts [.inl e, .inr (.inr (.inr (.inr e)))]
        · have e : prodStep s = if s.isFired h then s.complete bytes.length false else s.notEnabled := by
            simp [prodStep, hf, hp, hc, writeStage]
          rw [e]
          split
          · exact .inr (.inl ⟨_, _, rfl⟩)
          · exact .inl rfl
      · exact .inr (.inl ⟨idx, true, by simp [prodStep, hf, hp, hc]⟩)
    · cases hc : s.cancel
      · cases st
        · obtain e | e := marker 3#3 (.ends .wait) (by simp [prodStep, hf, hp, hc, endStage])
          exacts [.inl e, .inr (.inr (.inr (.inr e)))]
        · have e : prodStep s = if s.isFired h then s.complete 0 false else s.notEnabled := by
            simp [prodStep, hf, hp, hc, endStage]
          rw [e]
          split
          · exact .inr (.inl ⟨_, _, rfl⟩)
          · exact .inl rfl
      · exact .inr (.inl ⟨0, true, by simp [prodStep, hf, hp, hc]⟩)
  · exact .inl (by simp [prodStep, hf])

theorem doneFire_cases (s : State) :
    (s.fault = 0#2 ∧ s.abortArmed = true ∧ s.donePin = true ∧ s.cancel = false ∧ doneFire s = (setCancel s).note .done) ∨
    (¬ (s.fault = 0#2 ∧ s.abortArmed = true ∧ s.donePin = true ∧ s.cancel = false) ∧ doneFire s = s.notEnabled) := by
  by_cases h : s.fault = 0#2 ∧ s.abortArmed = true ∧ s.donePin = true ∧ s.cancel = false
  · exact .inl ⟨h.1, h.2.1, h.2.2.1, h.2.2.2, by simp only [doneFire, h, and_self, if_true]⟩
  · exact .inr ⟨h, by simp only [doneFire, h, if_false]⟩

/-! ### The step -/

/-- If a step answers a next state, the configuration is valid, and either no agent moved or the head turn was taken. -/
theorem step_cases {s s' : State} (h : step s = .next s') :
    s.params.valid = true ∧
    ((s.agenda = [] ∧ s' = s.note .idle) ∨
      ∃ turn rest, s.agenda = turn :: rest ∧ takeTurn turn { s with agenda := rest } = .next s') := by
  cases hv : s.params.valid
  · simp [step, hv] at h
  · refine ⟨rfl, ?_⟩
    rcases ha : s.agenda with _ | ⟨turn, rest⟩
    · simp only [step, hv, ha, if_true, Host.Outcome.next.injEq] at h
      exact .inl ⟨rfl, h.symm⟩
    · simp only [step, hv, ha, if_true] at h
      exact .inr ⟨turn, rest, rfl, h⟩

end Sys2Proof.Machine
end

