-- ==== Sys2Proof/Laws/PerInstr.lean ====
section
/-! SUPPORT. One lemma per instruction: its encoded word carries the tag or opcode of its row of spec/opcode_table.json. -/

namespace Sys2Proof.Laws

theorem reserved_mem (g : Tag) (h : Tag.isReserved g = true) : g.toNat ∈ [4, 5, 6, 7] := by
  have hlt : g.toNat < 8 := g.isLt
  have hge : 4 ≤ g.toNat := by simpa [Tag.isReserved] using h
  simp only [List.mem_cons, List.not_mem_nil, or_false]
  omega

end Sys2Proof.Laws

namespace Sys2Proof.Laws.RowTag

/-- The tags or opcodes of the row (`mask` and `match` of opcode_table.json; a reserved row has the tags 4 to 7). -/
def tags : Instr → List Nat
  | .tokData _ => [0]
  | .tokPre _ => [1]
  | .tokEom _ => [2]
  | .tokEos _ => [3]
  | .tokRsvd _ _ => [4, 5, 6, 7]
  | .puUnit _ => [0]
  | .puPre _ => [1]
  | .puEom _ => [2]
  | .puEos _ => [3]
  | .puRsvd _ _ => [4, 5, 6, 7]
  | .write _ => [0]
  | .endSession => [1]
  | .closeSession => [2]
  | .abortWhenDone => [3]
  | .sample _ _ _ _ => [4]
  | .cmdRsvd5 => [5]
  | .cmdRsvd6 => [6]
  | .cmdRsvd7 => [7]

/-- The tag or opcode a word carries (R71, R73, R74). -/
def tagOf : Word → Nat
  | .tok w => (tokTag w).toNat
  | .pu w => (puTag w).toNat
  | .cmd op _ => op.toNat

/-- The family's statement. -/
def Statement (i : Instr) : Prop := i.wellFormed = true → tagOf (encode i) ∈ tags i

theorem tokData (p : BitVec 16) : Statement (.tokData p) := fun _ => by simp [encode, tagOf, tags]
theorem tokPre (h : Handle) : Statement (.tokPre h) := fun _ => by simp [encode, tagOf, tags]
theorem tokEom (h : Handle) : Statement (.tokEom h) := fun _ => by simp [encode, tagOf, tags]
theorem tokEos (h : Handle) : Statement (.tokEos h) := fun _ => by simp [encode, tagOf, tags]
theorem tokRsvd (g : Tag) (d : Byte) : Statement (.tokRsvd g d) := fun h => by
  simpa [encode, tagOf, tags] using reserved_mem g h
theorem puUnit (u : Byte) : Statement (.puUnit u) := fun _ => by simp [encode, tagOf, tags]
theorem puPre (h : Handle) : Statement (.puPre h) := fun _ => by simp [encode, tagOf, tags]
theorem puEom (h : Handle) : Statement (.puEom h) := fun _ => by simp [encode, tagOf, tags]
theorem puEos (h : Handle) : Statement (.puEos h) := fun _ => by simp [encode, tagOf, tags]
theorem puRsvd (g : Tag) (d : Byte) : Statement (.puRsvd g d) := fun h => by
  simpa [encode, tagOf, tags] using reserved_mem g h
theorem write (bytes : List Byte) : Statement (.write bytes) := fun _ => by simp [encode, tagOf, tags]
theorem endSession : Statement .endSession := fun _ => by simp [encode, tagOf, tags]
theorem closeSession : Statement .closeSession := fun _ => by simp [encode, tagOf, tags]
theorem abortWhenDone : Statement .abortWhenDone := fun _ => by simp [encode, tagOf, tags]
theorem sample (t : Time) (a : Nat) (f : Freq) (p : Bool) : Statement (.sample t a f p) :=
  fun _ => by simp [encode, tagOf, tags]
theorem cmdRsvd5 : Statement .cmdRsvd5 := fun _ => by simp [encode, tagOf, tags]
theorem cmdRsvd6 : Statement .cmdRsvd6 := fun _ => by simp [encode, tagOf, tags]
theorem cmdRsvd7 : Statement .cmdRsvd7 := fun _ => by simp [encode, tagOf, tags]

end Sys2Proof.Laws.RowTag
end

