-- ==== Sys2Proof/Tests/Slice0.lean ====
section
/-! SUPPORT. Small tests, with words and results from 95_test_vectors.md, and for every statement with hypotheses a
witness that meets all of them together. -/

namespace Sys2Proof.Tests

open Sys2Proof Sys2Proof.Machine

/-! ### Helpers -/

/-- Reset with this queue of packed units, this segment. -/
def withSeg (g : Segment) (pq : List PuWord) : State := { State.reset with seg := g, pq := pq }

/-- Reset with the packer registers of a row of section 2.3 and one token. -/
def withPacker (acc : Byte) (fill : Nat) (lz : Bool) (w : TokWord) : State :=
  { State.reset with acc := acc, fill := fill, lastZero := lz, tq := [w] }

/-- Reset with an operation in flight and this token queue. -/
def withProd (p : Machine.Prod) (tq : List TokWord) : State := { State.reset with prod := p, tq := tq }

/-- Reset with one turn on the agenda. -/
def offering (s : State) (turn : Turn) : State := { s with agenda := [turn] }

/-- A SAMPLE turn at `t`. -/
def sampleAt (t : Time) : Turn := .host 4#3 { Ports.zero with t := t }

/-- A property of the next state, false of any other outcome. -/
def nextHas (o : Host.Outcome State Fault Refusal) (p : State → Bool) : Bool :=
  match o with
  | .next s => p s
  | .fault _ => false
  | .refused _ => false

/-! ### WellFormed: the ill-formed terms are refused -/

theorem test_wf_tokRsvd_refused : (Instr.tokRsvd 3#3 0#8).wellFormed = false := by decide
theorem test_wf_puRsvd_refused : (Instr.puRsvd 0#3 0#8).wellFormed = false := by decide
theorem test_wf_all_reserved_tags : ∀ g : Tag, (Instr.puRsvd g 0#8).wellFormed = decide (4 ≤ g.toNat) := by decide

/-! ### Decoding: words written out from the tables of 30_encoding.md and 95_test_vectors.md section 2.1 -/

theorem test_decode_tokData : decodeTok 0b0001011000000000000#19 = .tokData 0xB000 := by decide
theorem test_decode_tokPre : decodeTok 0b0010000000111111111#19 = .tokPre 255 := by decide
theorem test_decode_tokEom : decodeTok 0b0100000000011111111#19 = .tokEom 255 := by decide
theorem test_decode_tokEos : decodeTok 0b0110000000000000010#19 = .tokEos 2 := by decide
theorem test_decode_tokRsvd : decodeTok 0b1010001001010101011#19 = .tokRsvd 5 0xAB := by decide
theorem test_decode_puUnit : decodePu 0b00010110010#11 = .puUnit 0xB2 := by decide
theorem test_decode_puPre : decodePu 0b00100000000#11 = .puPre 0 := by decide
theorem test_decode_puEom : decodePu 0b01000000001#11 = .puEom 1 := by decide
theorem test_decode_puEos : decodePu 0b01100000010#11 = .puEos 2 := by decide
theorem test_decode_puRsvd : decodePu 0b11111111111#11 = .puRsvd 7 0xFF := by decide
theorem test_decode_write : decode (.cmd 0#3 { Ports.zero with bytes := [0x41] }) = .write [0x41] := by decide
theorem test_decode_endSession : decodeBits 8 1 = .ok .endSession := by decide
theorem test_decode_closeSession : decodeBits 8 2 = .ok .closeSession := by decide
theorem test_decode_abortWhenDone : decodeBits 3 3 = .ok .abortWhenDone := by decide
theorem test_decode_sample : decode (.cmd 4#3 { bytes := [], t := 48, a := 240, f := 1000, p := true })
    = .sample 48 240 1000 true := by decide
theorem test_decode_cmdRsvd : decodeBits 8 5 = .ok .cmdRsvd5 ∧ decodeBits 8 6 = .ok .cmdRsvd6 ∧
    decodeBits 8 7 = .ok .cmdRsvd7 := by decide
theorem test_decode_refuses_other_width : decodeBits 32 0 = .error (.noSuchFormat 32) := by decide
theorem test_decode_refuses_bits_above : decodeBits 16 0x800 = .error (.bitsAboveFormat 0x800) ∧
    decodeTableWord 24 0x80000 = none ∧ decodeTableWord 8 8 = none := by decide
theorem test_encode_marker : encode (.tokEom 255) = .tok 0x200FF := by decide
theorem test_encode_unit : encode (.puUnit 0xB2) = .pu 0x0B2 := by decide

/-! ### Packer: rows K2, K9, K28, K21, K26, K29, K31 of section 2.3 -/

theorem test_tokData_K2 : nextHas (exec (.tokData 0xB000) (withPacker 0x2C 6 true 0x0B000))
    (fun s => s.pq == [0x0B2#11] && s.acc == 0x0C && s.fill == 4 && s.lastZero && s.tq == []) = true := by decide
theorem test_tokData_K9 : nextHas (exec (.tokData 0xFFFF) (withPacker 0x7F 7 false 0x0FFFF))
    (fun s => s.pq == [0x0FF#11, 0x0FF#11] && s.acc == 0x7F && s.fill == 7 && !s.lastZero) = true := by decide
theorem test_tokPre_K28 : nextHas (exec (.tokPre 7) (withPacker 0x02 2 true 0x10007))
    (fun s => s.pq == [0x080#11, 0x000#11, 0x107#11] && s.acc == 0 && s.fill == 0 && s.lastZero) = true := by decide
theorem test_tokEom_K21 : nextHas (exec (.tokEom 1) (withPacker 0x00 2 true 0x20001))
    (fun s => s.pq == [0x000#11, 0x201#11] && s.fill == 0) = true := by decide
theorem test_tokEom_K26 : nextHas (exec (.tokEom 1) (withPacker 0x7F 7 false 0x20001))
    (fun s => s.pq == [0x0FE#11, 0x201#11] && !s.lastZero) = true := by decide
theorem test_tokEos_K29 : nextHas (exec (.tokEos 9) (withPacker 0 0 true 0x30009))
    (fun s => s.pq == [0x309#11] && s.lastZero) = true := by decide
theorem test_tokRsvd_K31 : nextHas (exec (.tokRsvd 5 0xAB) (withPacker 0x06 3 true 0x512AB))
    (fun s => s.pq == [0x0C0#11, 0x000#11, 0x5AB#11] && s.fill == 0) = true := by decide

/-! ### Sequencer: rows Q9, Q5, Q2, Q17, Q3, Q4, Q12, Q20 of section 2.5 -/

theorem test_puUnit_Q9 : nextHas (exec (.puUnit 0xFA) (withSeg (.preamble 0 0 true) [0x0FA]))
    (fun s => s.seg == .transmit 0xFA 0 false && s.pq == []) = true := by decide
theorem test_puUnit_Q5 : nextHas (exec (.puUnit 0xA0) (withSeg (.off false) [0x0A0]))
    (fun s => s.seg == .off false && s.fault == 2 && s.pq == []) = true := by decide
theorem test_puPre_Q2 : nextHas (exec (.puPre 0) (withSeg (.off false) [0x100]))
    (fun s => s.seg == .preamble 2 0 false && s.fired == 0) = true := by decide
theorem test_puPre_Q17 : nextHas (exec (.puPre 2) (withSeg (.transmit 0 1 true) [0x102]))
    (fun s => s.seg == .transmit 0 1 true && s.fired == 4) = true := by decide
theorem test_puEom_Q3 : nextHas (exec (.puEom 4) (withSeg (.off false) [0x204]))
    (fun s => s.seg == .off false && s.fired == 16) = true := by decide
theorem test_puEos_Q4 : nextHas (exec (.puEos 0) (withSeg (.off false) [0x300]))
    (fun s => s.seg == .off true && s.fired == 1) = true := by decide
theorem test_puEos_Q12 : nextHas (exec (.puEos 2) (withSeg (.preamble 0 0 true) [0x302]))
    (fun s => s.seg == .ending 2 2 false && s.fired == 0) = true := by decide
theorem test_puRsvd_Q20 : nextHas (exec (.puRsvd 5 0x12) (withSeg (.transmit 0xA0 8 true) [0x512]))
    (fun s => s.seg == .transmit 0xA0 8 true && s.fault == 1 && s.pq == []) = true := by decide

/-! ### Host operations: rows P6, P13, P7, P12, P11 of section 2.2, and the worked example R184 -/

theorem test_write_P6 : nextHas (exec (.write [0x41]) { State.reset with cancel := true })
    (fun s => s.result == { n := 0, err := true } && s.prod == .idle && s.nextHandle == 0) = true := by decide
theorem test_write_P13 : nextHas (exec (.write [0x61]) (withProd (.write [0x41] 0 .pre 0) []))
    (fun s => s.prod == .write [0x41] 0 .pre 0 && s.report == .notEnabled) = true := by decide
theorem test_endSession_P7 : nextHas (exec .endSession { State.reset with cancel := true })
    (fun s => s.result == { n := 0, err := true } && s.tq == []) = true := by decide
theorem test_closeSession_P12 : nextHas (exec .closeSession State.reset) (fun s => s.cancel) = true := by decide
theorem test_abortWhenDone_P11 : nextHas (exec .abortWhenDone State.reset)
    (fun s => s.abortArmed && !s.cancel && doneFire s == s.notEnabled &&
      (doneFire { s with donePin := true }).cancel) = true := by decide
theorem test_sample_R184 : nextHas (exec (.sample 48 0 0 false)
      { State.reset with seg := .transmit 0xA0 1 false, cellValid := true, lastCell := 5, fallEn := true })
    (fun s => s.report == .triple 0 1000 true && s.seg == .transmit 0xA0 2 false && s.riseEn && s.phase) = true := by
  decide
theorem test_sample_R184_next : nextHas (exec (.sample 49 0 0 false)
      { State.reset with seg := .transmit 0xA0 2 false, cellValid := true, lastCell := 6, fallEn := true, riseEn := true,
                         phase := true, switchNext := false })
    (fun s => s.report == .triple 120 1000 true) = true := by decide
theorem test_cmdRsvd5 : exec .cmdRsvd5 State.reset = .next { State.reset with report := .notEnabled } := rfl
theorem test_cmdRsvd6 : exec .cmdRsvd6 State.reset = .next { State.reset with report := .notEnabled } := rfl
theorem test_cmdRsvd7 : exec .cmdRsvd7 State.reset = .next { State.reset with report := .notEnabled } := rfl

/-! ### PROD_STEP: rows P3, P4, P10 of section 2.2 -/

theorem test_prod_pre : (prodStep (withProd (.write [0x41] 0 .pre 9) [])).tq = [0x10000#19] := by decide
theorem test_prod_data_A : (prodStep (withProd (.write [0x41] 0 .data 9) [])).tq = [0x0FA00#19] := by decide
theorem test_prod_data_skips : (prodStep (withProd (.write [0x80] 0 .data 9) [])).prod = .write [0x80] 1 .data 9 ∧
    (prodStep (withProd (.write [0x7A] 0 .data 9) [])).tq = [] := by decide
theorem test_prod_P10 : (prodStep { withProd (.write [0x41] 1 .wait 1) [] with fired := 2, cancel := true }).result
    = { n := 1, err := true } := by decide

/-! ### Ticks: rows T2, T8, T9, T12, T14 of section 2.6 -/

theorem test_tick_T2 : (boundaryTick { withSeg (.preamble 1 0 false) [] with phase := true }).seg = .preamble 0 0 true ∧
    (boundaryTick (withSeg (.preamble 1 0 false) [])).fired = 1 := by decide
theorem test_tick_T8 : (boundaryTick (withSeg (.transmit 0xFF 8 true) [])).phase = true := by decide
theorem test_tick_T9 : (boundaryTick (withSeg (.transmit 0 0 false) [])).seg = .transmit 0 1 true := by decide
theorem test_tick_T12 : (boundaryTick (withSeg (.ending 1 4 false) [])).fired = 16 := by decide
theorem test_tick_T14 : (boundaryTick { withSeg (.off true) [] with fallEn := true }).riseEn = true := by decide

/-! ### The placing of a word: the next step runs it -/

theorem test_place_token : nextHas (step (State.reset.withFetchWord 24 0x20001))
    (fun s => s.pq == [0x201#11] && s.tq == []) = true := by decide
theorem test_place_unit : nextHas (step (State.reset.withFetchWord 16 0x100))
    (fun s => s.seg == .preamble 1 0 false && s.pq == [] && s.phase) = true := by decide
theorem test_place_command : nextHas (step (State.reset.withFetchWord 8 2)) (fun s => s.cancel) = true := by decide

/-! ### Witnesses: concrete states and operands that meet the hypotheses of each statement -/

theorem witness_DecodeEncodeRoundTrip :
    (Instr.tokRsvd 4#3 0xAB).wellFormed = true ∧ (Instr.puRsvd 7#3 0).wellFormed = true := by decide

theorem witness_WordsDecodeWellFormedAndReencode :
    tokTag 0x0FFFF#19 = 0#3 ∧ (0x700FF#19).extractLsb' 8 8 = 0#8 := by decide

theorem witness_TokFormatDecodes :
    4 ≤ (4#3).toNat ∧ 4 ≤ (7#3).toNat ∧
    (withProd .idle (List.replicate 7 0)).tq.length < (withProd .idle (List.replicate 7 0)).params.tqDepth := by decide

theorem witness_PuFormatDecodes : 4 ≤ (4#3).toNat ∧ 4 ≤ (7#3).toNat := by decide

theorem witness_HostTurnRunsDecodedCommand :
    (offering State.reset (sampleAt 3)).params.valid = true ∧
    (offering State.reset (sampleAt 3)).agenda = .host 4#3 { Ports.zero with t := 3 } :: [] := by decide

theorem witness_PackerTurnRunsDecodedToken :
    (offering (withProd .idle [0x10000]) .packer).params.valid = true ∧
    (offering (withProd .idle [0x10000]) .packer).agenda = .packer :: [] ∧
    (offering (withProd .idle [0x10000]) .packer).tq = 0x10000 :: [] ∧
    (offering State.reset .packer).agenda = .packer :: [] ∧ (offering State.reset .packer).tq = [] := by decide

theorem witness_SampleTurnRunsDecodedUnit :
    let s := offering (withSeg (.preamble 0 0 true) [0x0FA]) (sampleAt 0)
    s.params.valid = true ∧ s.agenda = .host 4#3 { Ports.zero with t := 0 } :: [] ∧ s.fault = 0#2 ∧ s.cancel = false ∧
      polls s.seg = true ∧ s.pq = 0x0FA :: [] := by decide

theorem witness_TurnsWithoutAWord :
    State.reset.params.valid = true ∧ (offering State.reset .producer).agenda = .producer :: [] ∧
    (offering State.reset .watch).agenda = .watch :: [] ∧
    (offering State.reset (.donePin true)).agenda = .donePin true :: [] ∧ State.reset.agenda = [] := by decide

theorem witness_StepStopsOnlyOnBadConfiguration :
    State.reset.params.valid = true ∧ ({ Config.profileP0 with pqDepth := 3 } : Params).valid = true ∧
    ({ Config.profileP0 with pqDepth := 2 } : Params).valid = false ∧
    ({ Config.profileP0 with tqDepth := 244 } : Params).valid = false ∧
    ({ Config.profileP0 with tqDepth := 243 } : Params).valid = true := by decide

theorem witness_WriteAndEndSessionStart :
    State.reset.fault = 0#2 ∧ State.reset.prod = .idle ∧ State.reset.cancel = false := by decide

theorem witness_StartTurnedAway :
    let c := { State.reset with cancel := true }
    let f := { State.reset with fault := 2#2 }
    let b := withProd (.ends .wait 0) []
    (c.fault = 0#2 ∧ c.prod = .idle ∧ c.cancel = true) ∧ f.fault ≠ 0#2 ∧ b.prod ≠ .idle ∧
      (∃ bytes, Instr.write [] = .write bytes) :=
  ⟨by decide, by decide, by decide, [], rfl⟩

theorem witness_CloseSessionAndAbortWhenDone :
    (withProd (.write [0x41] 1 .wait 1) []).fault = 0#2 ∧ ({ State.reset with fault := 1#2 } : State).fault ≠ 0#2 := by
  decide

theorem witness_DoneFireSamplesTheLevel :
    let s := { State.reset with abortArmed := true, donePin := true }
    (s.fault = 0#2 ∧ s.abortArmed = true ∧ s.donePin = true ∧ s.cancel = false) ∧
    ¬ (State.reset.fault = 0#2 ∧ State.reset.abortArmed = true ∧ State.reset.donePin = true ∧
        State.reset.cancel = false) := by decide

theorem witness_ReservedOpcodesChangeNothing : 5 ≤ (5#3).toNat ∧ 5 ≤ (6#3).toNat ∧ 5 ≤ (7#3).toNat := by decide

theorem witness_ProducerPushesMarkers :
    let full := List.replicate 7 (0x10000 : TokWord)
    let a := withProd (.write [0x41] 0 .pre 9) full
    let b := withProd (.write [0x41] 1 .eom 9) full
    let c := withProd (.ends .eos 9) full
    (a.fault = 0#2 ∧ a.cancel = false ∧ a.tq.length < a.params.tqDepth ∧ a.prod = .write [0x41] 0 .pre 9) ∧
    (b.fault = 0#2 ∧ b.cancel = false ∧ b.tq.length < b.params.tqDepth ∧ b.prod = .write [0x41] 1 .eom 9) ∧
    (c.fault = 0#2 ∧ c.cancel = false ∧ c.tq.length < c.params.tqDepth ∧ c.prod = .ends .eos 9) := by decide

theorem witness_ProducerTranslatesOneByte :
    let bytes : List Byte := [0x80, 0x7A, 0x74]
    let s := fun idx => withProd (.write bytes idx .data 9) (List.replicate 7 0)
    ((s 3).fault = 0#2 ∧ (s 3).cancel = false ∧ (s 3).prod = .write bytes 3 .data 9 ∧ bytes.length ≤ 3) ∧
    ((s 0).prod = .write bytes 0 .data 9 ∧ bytes[0]? = some 0x80 ∧ (0x80 : Byte).getLsbD 7 = true) ∧
    ((s 1).prod = .write bytes 1 .data 9 ∧ bytes[1]? = some 0x7A ∧
      tableRead (s 1) ((0x7A : Byte).extractLsb' 0 7) = none) ∧
    ((s 2).prod = .write bytes 2 .data 9 ∧ bytes[2]? = some 0x74 ∧ (0x74 : Byte).getLsbD 7 = false ∧
      tableRead (s 2) ((0x74 : Byte).extractLsb' 0 7) = some 0xA000 ∧ (s 2).tq.length < (s 2).params.tqDepth) := by
  decide

theorem witness_ProducerTranslatesOneByte_table :
    let s := State.reset
    Config.codesRising s.params.table = true ∧ tableRead s 0x74 = some 0xA000 ∧ (0x74, 0xA000) ∈ s.params.table ∧
      tableRead s 0x7A = none :=
  ⟨by decide, by decide, by simp [State.reset, State.construct, Config.profileP0, Config.recoveredTable], by decide⟩

theorem witness_AcknowledgedOperationCompletes :
    let w := { withProd (.write [0x41] 1 .wait 255) [] with fired := BitVec.ofNat 256 (2 ^ 255) }
    let e := { withProd (.ends .wait 0) [] with fired := 1 }
    (w.fault = 0#2 ∧ w.cancel = false ∧ w.fired.getLsbD (255 : Handle).toNat = true ∧ w.prod = .write [0x41] 1 .wait 255) ∧
    (e.fault = 0#2 ∧ e.cancel = false ∧ e.fired.getLsbD (0 : Handle).toNat = true ∧ e.prod = .ends .wait 0) := by decide

theorem witness_CancelledOperationAborts :
    let w := { withProd (.write [0x41] 1 .wait 1) [] with fired := 2, cancel := true }
    let e := { withProd (.ends .eos 0) (List.replicate 8 0) with cancel := true }
    (w.fault = 0#2 ∧ w.cancel = true ∧ w.prod = .write [0x41] 1 .wait 1) ∧
    (e.fault = 0#2 ∧ e.cancel = true ∧ e.prod = .ends .eos 0) := by decide

theorem witness_ProducerStuckForThreeReasons :
    let f := { withProd (.ends .eos 0) [] with fault := 1#2 }
    let t := withProd (.write [0x41] 0 .data 0) (List.replicate 8 0)
    let h := withProd (.write [0x41] 1 .wait 1) []
    let ok := withProd (.write [0x7A] 0 .data 0) (List.replicate 8 0)
    (f.prod ≠ .idle ∧ (prodStep f).report = .notEnabled) ∧ (t.prod ≠ .idle ∧ (prodStep t).report = .notEnabled) ∧
    (h.prod ≠ .idle ∧ (prodStep h).report = .notEnabled) ∧ (ok.prod ≠ .idle ∧ (prodStep ok).report = .done) := by decide

theorem witness_WriteEnqueuesOneFramedMessage :
    let bytes : List Byte := [0x61, 0x7A, 0x61, 0x80, 0x74, 0x41, 0x42, 0x2D]
    let s := withProd (.write bytes 0 .pre 9) []
    s.fault = 0#2 ∧ s.cancel = false ∧ s.prod = .write bytes 0 .pre 9 ∧
      s.tq.length + (dataTokens s bytes).length + 2 = s.params.tqDepth := by decide

theorem witness_PackDataEmitsCutPattern :
    let s := { withPacker 0x7F 7 false 0x0FFFF with pq := List.replicate 5 0 }
    s.fault = 0#2 ∧ s.cancel = false ∧ s.pq.length + 3 = s.params.pqDepth ∧ s.PackerOk := by decide

theorem witness_SparsePatternKeepsItsBits :
    let s := withPacker 0x2C 6 true 0x0B000
    s.fault = 0#2 ∧ s.cancel = false ∧ s.pq.length + 3 ≤ s.params.pqDepth ∧ s.PackerOk ∧
      bitsDown 16 (0xB000 : BitVec 16) = [true, false, true, true] ++ false :: false :: List.replicate 10 false ∧
      sparseZero [true, false, true, true] = true ∧ [true, false, true, true].head? = some true := by decide

theorem witness_PackMarkerFlushesAndPasses :
    let a := { withPacker 0 0 true 0x30009 with pq := List.replicate 5 0 }
    let b := withPacker 0x14 5 true 0x20001
    (a.fault = 0#2 ∧ a.cancel = false ∧ a.pq.length + 3 = a.params.pqDepth ∧ a.fill = 0) ∧
    (b.fault = 0#2 ∧ b.cancel = false ∧ b.pq.length + 3 ≤ b.params.pqDepth ∧ b.fill ≠ 0 ∧
      (0xA0 : Byte) = b.acc <<< (8 - b.fill)) ∧
    (Instr.tokRsvd 4#3 1 = .tokRsvd 4#3 1 ∧ 4 ≤ (4#3).toNat) := by decide

theorem witness_PackerNotEnabledChangesNothing :
    ({ State.reset with fault := 2#2 } : State).fault ≠ 0#2 ∧ ({ State.reset with cancel := true } : State).cancel = true ∧
    ({ State.reset with pq := List.replicate 6 0 } : State).params.pqDepth <
      ({ State.reset with pq := List.replicate 6 0 } : State).pq.length + 3 := by decide

theorem witness_PackingReadsPackerStateOnly :
    let a := withPacker 0x2C 6 true 0x0B000
    let b := { withPacker 0x2C 6 true 0x0B000 with seg := .off true, phase := true, nextHandle := 5 }
    a.packReady = true ∧ b.packReady = true ∧ a.fill ≤ 7 ∧ a.acc = b.acc ∧ a.fill = b.fill ∧ a.lastZero = b.lastZero ∧
      a.params.extraGap = b.params.extraGap := by decide

theorem witness_UnitLoadsTransmit :
    let s := withSeg (.transmit 0xFA 8 true) [0x000]
    s.fault = 0#2 ∧ s.cancel = false ∧ openExhausted s.seg = true := by decide

theorem witness_UnitInIdleOffFaults :
    let s := withSeg (.off false) [0x0A0]
    s.fault = 0#2 ∧ s.cancel = false ∧ s.seg = .off false ∧ s.pq = (0#3 ++ (0xA0 : Byte)) :: [] := by decide

theorem witness_ReservedUnitFaults :
    let s := withSeg (.off false) [0x400]
    4 ≤ (4#3).toNat ∧ s.fault = 0#2 ∧ s.cancel = false ∧ polls s.seg = true ∧ s.pq = (4#3 ++ (0 : Byte)) :: [] := by
  decide

theorem witness_PreambleMarkerOpensOrIsAcknowledged :
    let o := withSeg (.off false) [0x100]
    let t := withSeg (.transmit 0 1 true) [0x102]
    (o.fault = 0#2 ∧ o.cancel = false ∧ o.seg = .off false) ∧
    (t.fault = 0#2 ∧ t.cancel = false ∧ openExhausted t.seg = true) := by decide

theorem witness_EndOfMessageIsAcknowledged :
    let s := withSeg (.preamble 0 0 true) [0x201]
    s.fault = 0#2 ∧ s.cancel = false ∧ polls s.seg = true := by decide

theorem witness_EndOfSessionEndsOrCloses :
    let o := withSeg (.off false) [0x300]
    let t := withSeg (.preamble 0 0 true) [0x302]
    (o.fault = 0#2 ∧ o.cancel = false ∧ o.seg = .off false) ∧
    (t.fault = 0#2 ∧ t.cancel = false ∧ openExhausted t.seg = true) := by decide

theorem witness_NothingIsPoppedUnlessPolling :
    let f := { withSeg (.off false) [0x100] with fault := 2#2 }
    let c := { withSeg (.off false) [0x100] with cancel := true }
    let n := withSeg (.transmit 0xFA 5 false) [0x100]
    (f.fault ≠ 0#2 ∧ ∃ s', exec (.sample 0 0 0 false) f = .next s') ∧
    (c.cancel = true ∧ ∃ s', exec (.sample 0 0 0 false) c = .next s') ∧
    (polls n.seg = false ∧ ∃ s', exec (.sample 0 0 0 false) n = .next s') :=
  ⟨⟨by decide, _, rfl⟩, ⟨by decide, _, rfl⟩, ⟨by decide, _, rfl⟩⟩

theorem witness_ExhaustedEndCloses :
    let s := { withSeg (.ending 0 2 true) [0x512] with fallEn := true }
    let c := { s with cellValid := true, lastCell := 1 }
    (s.fault = 0#2 ∧ s.cancel = false ∧ s.seg = .ending 0 2 true ∧
      (1 : Time) = BitVec.ofNat 64 ((8 : Time).toNat / s.params.cellLen)) ∧
    true = (!s.cellValid || (1 : Time) != s.lastCell) ∧ false = (!c.cellValid || (1 : Time) != c.lastCell) := by decide

theorem witness_PreambleTick :
    (withSeg (.preamble 1 0 false) []).seg = .preamble 1 0 false ∧ 1 ≤ 1 ∧
    ({ withSeg (.preamble 2 0 false) [] with fired := 1 } : State).fired.getLsbD (0 : Handle).toNat = true ∧
    ((withSeg (.preamble 2 0 false) []).seg = .preamble 2 0 false ∧ 1 < 2 ∧
      (withSeg (.preamble 2 0 false) []).fired.getLsbD (0 : Handle).toNat = false ∧
      (withSeg (.preamble 2 0 false) []).fired = 0#256) := by decide

theorem witness_TransmitTick :
    ((withSeg (.transmit 0xA0 7 false) []).seg = .transmit 0xA0 7 false ∧ 7 < 8 ∧
      false = (0xA0 : Byte).getLsbD (7 - 7)) ∧
    (withSeg (.transmit 0xFF 8 true) []).seg = .transmit 0xFF 8 true ∧
    (withSeg (.transmit 0xA0 0 false) []).seg = .transmit 0xA0 0 false := by decide

theorem witness_EndTick :
    ((withSeg (.ending 2 5 false) []).seg = .ending 2 5 false ∧ 1 < 2) ∧
    (withSeg (.ending 1 4 false) []).seg = .ending 1 4 false ∧ (withSeg (.ending 0 4 true) []).seg = .ending 0 4 true ∧
    (withSeg (.ending 2 5 false) []).cancel = false := by decide

theorem witness_KeyingLaw :
    let s := withSeg (.transmit 0xA0 3 false) []
    s.seg = .transmit 0xA0 3 false ∧ (0xA0 : Byte).getLsbD (7 - 0) = true ∧ (0xA0 : Byte).getLsbD (7 - 7) = false ∧
      3 + 5 ≤ 8 ∧ (∀ j, j < 5 → (0xA0 : Byte).getLsbD (7 - (3 + j)) = false) := by decide

theorem witness_PreambleAndEndLastTheirCycles :
    let p := withSeg (.preamble 2 0 false) []
    let e := withSeg (.ending 2 255 false) []
    (1 ≤ 2 ∧ 2 ≤ 2 ∧ p.fired.getLsbD (0 : Handle).toNat = false ∧ p.seg = .preamble 2 0 false) ∧
    (e.fired.getLsbD (255 : Handle).toNat = false ∧ e.seg = .ending 2 255 false) := by decide

theorem witness_UnitLastsEightTicks :
    (withSeg (.transmit 0xA0 0 false) []).seg = .transmit 0xA0 0 false ∧ 8 ≤ 8 ∧
    (withSeg (.transmit 0 0 false) []).seg = .transmit 0 0 false := by decide

theorem witness_SampleWithinACell :
    let s := { withSeg (.ending 1 0 false) [0x100] with
      cellValid := true, lastCell := 6, switchNext := false, riseEn := true }
    s.fault = 0#2 ∧ s.QuietSequencer ∧ s.cellValid = true ∧
      BitVec.ofNat 64 ((49 : Time).toNat / s.params.cellLen) = s.lastCell ∧
      amplitudeLaw s.params s.seg true s.riseEn s.fallEn ((49 : Time).toNat % s.params.cellLen) = 60 := by decide

theorem witness_SampleMidTick :
    let s := { withSeg (.transmit 0xA0 1 false) [] with cellValid := true, lastCell := 6, switchNext := false }
    (s.fault = 0#2 ∧ s.QuietSequencer ∧ (7 : Time) ≠ s.lastCell ∧ s.switchNext = false) ∧
      (7 : Time) = BitVec.ofNat 64 ((63 : Time).toNat / s.params.cellLen) ∧
      amplitudeLaw s.params s.seg false s.riseEn (flipLaw s.seg) ((63 : Time).toNat % s.params.cellLen) = 120 :=
  ⟨by decide, rfl, rfl⟩

theorem witness_SampleBoundaryTick :
    let s := withSeg (.transmit 0xA0 8 true) []
    (s.fault = 0#2 ∧ s.QuietSequencer ∧ (0 : Time) = BitVec.ofNat 64 ((1 : Time).toNat / s.params.cellLen) ∧
      s.cellValid = false ∧ s.switchNext = true) ∧
    State.reset.seg = .off false ∧ (withSeg (.off true) []).seg = .off true := by decide

theorem witness_AmplitudeWithinFullScale :
    let s := withSeg (.transmit 0xA0 0 false) []
    s.params.valid = true ∧ segInRange s.params s.seg = true ∧ s.fault = 0#2 ∧
      ∃ s', exec (.sample 0 0 0 false) s = .next s' ∧ s'.report = .triple 240 1000 false :=
  ⟨by decide, by decide, by decide, _, rfl, by decide⟩

theorem witness_PhaseChangesOnlyAtBoundaryTicks :
    let s := offering (withSeg (.preamble 2 0 false) []) (sampleAt 0)
    ∃ s', step s = .next s' ∧ s.NoResetNext ∧ s'.phase ≠ s.phase := ⟨_, rfl, by decide, by decide⟩

theorem witness_PhaseFlipsAtZeroAmplitude :
    let s := withSeg (.transmit 0xA0 1 false) []
    s.params.valid = true ∧ (8 : Time).toNat % s.params.cellLen = 0 ∧
      ∃ s', exec (.sample 8 0 0 false) s = .next s' ∧ s'.phase ≠ s.phase := ⟨by decide, by decide, _, rfl, by decide⟩

theorem witness_AmplitudeMonotoneInWindows :
    let r := { withSeg (.transmit 0xA0 1 false) [] with switchNext := false, riseEn := true }
    let f := { withSeg (.transmit 0xA0 1 false) [] with fallEn := true }
    r.params.valid = true ∧ (r.switchNext = false ∧ r.riseEn = true ∧ 0 + 1 < r.params.rampW) ∧
    (f.switchNext = true ∧ f.fallEn = true ∧ f.params.cellLen - f.params.rampW ≤ 6 ∧ 6 + 1 < f.params.cellLen) ∧
    (r.dips 2 = false ∧ r.dips 7 = false) := by decide

theorem witness_FrequencyIsAlwaysTheCarrier :
    ∃ s', step (offering State.reset (sampleAt 0)) = .next s' ∧ s'.report = .triple 0 1000 false :=
  ⟨_, rfl, by decide⟩

theorem witness_CancelledBlockIsSilentForever :
    let s := { offering (withSeg (.transmit 0xA0 1 false) []) (sampleAt 0) with cancel := true, phase := true }
    let m := { s with cellValid := true, lastCell := 0, switchNext := false, fallEn := true }
    (s.fault = 0#2 ∧ s.cancel = true ∧ s.NoResetNext ∧ true = (!s.cellValid || (1 : Time) != s.lastCell) ∧
      (1 : Time) = BitVec.ofNat 64 ((8 : Time).toNat / s.params.cellLen)) ∧
    (m.switchNext = false ∧ true = (!m.cellValid || (1 : Time) != m.lastCell) ∧
      false = (!m.cellValid || (0 : Time) != m.lastCell)) ∧
    ∃ s', step s = .next s' := ⟨by decide, by decide, _, rfl⟩

theorem witness_ResetRestoresEveryRegister :
    let s := offering { withSeg (.transmit 0xA0 1 false) [0x512] with fault := 1#2, cancel := true } .reset
    s.params.valid = true ∧ s.agenda = .reset :: [] := by decide

theorem witness_StepKeepsInvariant :
    let s := offering (withPacker 0x7F 7 false 0x0FFFF) .packer
    s.Inv ∧ ∃ s', step s = .next s' ∧ s'.pq.length = 2 := ⟨by decide, _, rfl, by decide⟩

theorem witness_WiredBlockNeverFaults :
    let s := offering { State.reset with pq := [0x201, 0x100, 0x0FA], tq := [0x0B000], fill := 1 } (sampleAt 0)
    s.Wired ∧ s.seg = .off false ∧ s.fault = 0#2 ∧ ∃ s', step s = .next s' :=
  ⟨⟨⟨by simp [offering, tokTag], by simp [offering, puTag]⟩, fun _ => by decide⟩, by decide, by decide, _, rfl⟩

theorem witness_FaultHaltsTheBlock :
    let s := offering { withSeg (.off false) [0x100] with fault := 2#2 } (sampleAt 0)
    s.fault ≠ 0#2 ∧ s.NoResetNext ∧ ∃ s', step s = .next s' := ⟨by decide, by decide, _, rfl⟩

theorem witness_ClosedOffIsTerminal :
    let s := offering (withSeg (.off true) [0x100]) (sampleAt 8)
    s.seg = .off true ∧ s.NoResetNext ∧ ∃ s', step s = .next s' := ⟨by decide, by decide, _, rfl⟩

theorem witness_ParametersFixedAndFlagsSticky :
    let s := offering { State.reset with cancel := true, abortArmed := true } .producer
    let f := offering { State.reset with fault := 1#2 } .producer
    (s.NoResetNext ∧ s.cancel = true ∧ s.abortArmed = true ∧ ∃ s', step s = .next s') ∧
    (f.NoResetNext ∧ f.fault ≠ 0#2 ∧ ∃ s', step f = .next s') :=
  ⟨⟨by decide, by decide, by decide, _, rfl⟩, ⟨by decide, by decide, _, rfl⟩⟩

theorem witness_SegmentOrderNeverGoesBack :
    let s := offering (withSeg (.preamble 2 0 false) []) (sampleAt 0)
    s.NoResetNext ∧ ∃ s', step s = .next s' ∧ s.seg = .preamble 2 0 false ∧ s'.seg = .preamble 1 0 false :=
  ⟨by decide, _, rfl, by decide, by decide⟩

theorem witness_OnlyItsAgentWritesARegister :
    let p := offering (withPacker 0 0 false 0x0B000) .packer
    let q := offering (withProd (.write [0x41] 0 .data 0) []) .producer
    let w := offering { State.reset with abortArmed := true, donePin := true } .watch
    let m := offering State.reset (sampleAt 0)
    let c := offering State.reset (.host 2#3 Ports.zero)
    (p.agenda = .packer :: [] ∧ ∃ s', step p = .next s') ∧ (q.agenda = .producer :: [] ∧ ∃ s', step q = .next s') ∧
    (w.agenda = .watch :: [] ∧ ∃ s', step w = .next s') ∧
    (m.agenda = .host 4#3 { Ports.zero with t := 0 } :: [] ∧ ∃ s', step m = .next s') ∧
    (c.agenda = .host 2#3 Ports.zero :: [] ∧ 2#3 ≠ 4#3 ∧ ∃ s', step c = .next s') :=
  ⟨⟨by decide, _, rfl⟩, ⟨by decide, _, rfl⟩, ⟨by decide, _, rfl⟩, ⟨by decide, _, rfl⟩, ⟨by decide, by decide, _, rfl⟩⟩

end Sys2Proof.Tests
end

section
/-! PROOFS. The decoders by tag, the producer's marker push, and the reserved opcodes (R71, R73, R82). -/

namespace Sys2Proof

open Sys2Proof.Machine

/-! ### The fields of a word written out as a concatenation

The field lemmas of `tokMarker` have the upper payload byte 0; here that byte, which the packer ignores, is free. -/

@[simp] theorem tokTag_append (g : Tag) (p : BitVec 16) : tokTag (g ++ p) = g :=
  BitVec.extractLsb'_append_eq_left

@[simp] theorem tokPattern_append (g : Tag) (p : BitVec 16) : tokPattern (g ++ p) = p :=
  BitVec.extractLsb'_append_eq_right

@[simp] theorem tokLow_append (g : Tag) (x d : Byte) : tokLow (g ++ (x ++ d)) = d := by
  have payload : tokLow (g ++ (x ++ d)) = (x ++ d).extractLsb' 0 8 :=
    BitVec.extractLsb'_append_eq_of_add_le (by decide)
  rw [payload, BitVec.extractLsb'_append_eq_right]

@[simp] theorem puTag_append (g : Tag) (d : Byte) : puTag (g ++ d) = g := puTag_puWord g d

@[simp] theorem puData_append (g : Tag) (d : Byte) : puData (g ++ d) = d := puData_puWord g d

/-! ### What each decoder answers, by the tag or opcode -/

section
variable {w : TokWord}

theorem decodeTok_of_tag_data (h : tokTag w = 0#3) : decodeTok w = .tokData (tokPattern w) := by simp [decodeTok, h]

theorem decodeTok_of_tag_pre (h : tokTag w = 1#3) : decodeTok w = .tokPre (tokLow w) := by simp [decodeTok, h]

theorem decodeTok_of_tag_eom (h : tokTag w = 2#3) : decodeTok w = .tokEom (tokLow w) := by simp [decodeTok, h]

theorem decodeTok_of_tag_eos (h : tokTag w = 3#3) : decodeTok w = .tokEos (tokLow w) := by simp [decodeTok, h]

theorem decodeTok_of_tag_reserved (h : 4 ≤ (tokTag w).toNat) : decodeTok w = .tokRsvd (tokTag w) (tokLow w) := by
  unfold decodeTok
  split
  case h_5 => rfl
  all_goals omega

end

section
variable {w : PuWord}

theorem decodePu_of_tag_unit (h : puTag w = 0#3) : decodePu w = .puUnit (puData w) := by simp [decodePu, h]

theorem decodePu_of_tag_pre (h : puTag w = 1#3) : decodePu w = .puPre (puData w) := by simp [decodePu, h]

theorem decodePu_of_tag_eom (h : puTag w = 2#3) : decodePu w = .puEom (puData w) := by simp [decodePu, h]

theorem decodePu_of_tag_eos (h : puTag w = 3#3) : decodePu w = .puEos (puData w) := by simp [decodePu, h]

theorem decodePu_of_tag_reserved (h : 4 ≤ (puTag w).toNat) : decodePu w = .puRsvd (puTag w) (puData w) := by
  unfold decodePu
  split
  case h_5 => rfl
  all_goals omega

end

/-- The opcodes R82 reserves, whatever the ports carry. -/
theorem decodeCmd_of_opcode_reserved (ports : Ports) {op : BitVec 3} (h : 5 ≤ op.toNat) :
    decodeCmd op ports = .cmdRsvd5 ∨ decodeCmd op ports = .cmdRsvd6 ∨ decodeCmd op ports = .cmdRsvd7 := by
  unfold decodeCmd
  split
  case h_6 => exact .inl rfl
  case h_7 => exact .inr (.inl rfl)
  case h_8 => exact .inr (.inr rfl)
  all_goals omega

/-- The first bit of a unit on the air is its bit 7 (R73, R153). -/
theorem unitBit_zero (u : Byte) : unitBit u 0 = u.getLsbD 7 := rfl

/-! ### The producer's marker push -/

theorem one_le_tqFree_iff (s : State) : 1 ≤ s.tqFree ↔ s.tq.length < s.params.tqDepth := by
  unfold State.tqFree
  omega

theorem pushMarker_of_room {s : State} (room : s.tq.length < s.params.tqDepth) (g : Tag) (next : Handle → Machine.Prod) :
    pushMarker s g next =
      (((s.alloc.pushTq (tokMarker g s.nextHandle)).setProd (next s.nextHandle)).note .done) := by
  have free : 1 ≤ s.tqFree := (one_le_tqFree_iff s).mpr room
  obtain ⟨-, pushed⟩ | ⟨full, -⟩ := pushMarker_cases s g next
  · exact pushed
  · omega

theorem pushMarker_tq_of_room {s : State} (room : s.tq.length < s.params.tqDepth) (g : Tag)
    (next : Handle → Machine.Prod) : (pushMarker s g next).tq = s.tq ++ [tokMarker g s.nextHandle] := by
  simp [pushMarker_of_room room]

/-! ### The reserved host opcodes -/

theorem exec_cmdRsvd5 (s : State) : exec .cmdRsvd5 s = .next s.notEnabled := rfl

theorem exec_cmdRsvd6 (s : State) : exec .cmdRsvd6 s = .next s.notEnabled := rfl

theorem exec_cmdRsvd7 (s : State) : exec .cmdRsvd7 s = .next s.notEnabled := rfl

theorem exec_decodeCmd_of_opcode_reserved (s : State) (ports : Ports) {op : BitVec 3} (h : 5 ≤ op.toNat) :
    exec (decodeCmd op ports) s = .next s.notEnabled := by
  obtain e | e | e := decodeCmd_of_opcode_reserved ports h <;> rw [e]
  · exact exec_cmdRsvd5 s
  · exact exec_cmdRsvd6 s
  · exact exec_cmdRsvd7 s

/-! ### The statements -/

/-- Settles O3: each clause is the decoder's answer for the tag of the word, read off its fields. -/
theorem tokFormatDecodes : Obligations.TokFormatDecodes := by
  refine ⟨fun p => ?data, fun x h => ?pre, fun x h => ?eom, fun x h => ?eos, fun g x d hg => ?reserved,
    fun s g next room => pushMarker_tq_of_room room g next⟩
  case data => rw [decodeTok_of_tag_data (tokTag_append _ _), tokPattern_append]
  case pre => rw [decodeTok_of_tag_pre (tokTag_append _ _), tokLow_append]
  case eom => rw [decodeTok_of_tag_eom (tokTag_append _ _), tokLow_append]
  case eos => rw [decodeTok_of_tag_eos (tokTag_append _ _), tokLow_append]
  case reserved => rw [decodeTok_of_tag_reserved (by rwa [tokTag_append]), tokTag_append, tokLow_append]

/-- Settles O4: each clause is the decoder's answer for the tag of the word, read off its fields. -/
theorem puFormatDecodes : Obligations.PuFormatDecodes := by
  refine ⟨fun u => ⟨?unit, unitBit_zero u⟩, fun h => ?pre, fun h => ?eom, fun h => ?eos, fun g d hg => ?reserved⟩
  case unit => rw [decodePu_of_tag_unit (puTag_append _ _), puData_append]
  case pre => rw [decodePu_of_tag_pre (puTag_append _ _), puData_append]
  case eom => rw [decodePu_of_tag_eom (puTag_append _ _), puData_append]
  case eos => rw [decodePu_of_tag_eos (puTag_append _ _), puData_append]
  case reserved => rw [decodePu_of_tag_reserved (by rwa [puTag_append]), puTag_append, puData_append]

/-- Settles O15: a reserved opcode decodes to one of the three rows, and each row answers `notEnabled`. -/
theorem reservedOpcodesChangeNothing : Obligations.ReservedOpcodesChangeNothing :=
  fun s ports _ reserved => ⟨decodeCmd_of_opcode_reserved ports reserved,
    exec_decodeCmd_of_opcode_reserved s ports reserved, exec_cmdRsvd5 s, exec_cmdRsvd6 s, exec_cmdRsvd7 s⟩

end Sys2Proof
end

section
/-! PROOFS. The segment sequencer: what a command and a token can do (R6), the popped word, the boundary tick segment by
segment (R151, R153, R156), the mid tick (R159), and the closed Off (R141). -/

namespace Sys2Proof

open Sys2Proof.Machine

/-! ### The rows as their shared operations -/

/-- Every `TOK` word is run as one PACK_STEP, whose action changes the packer's registers and appends to `PQ`. -/
theorem exec_decodeTok_packing (w : TokWord) :
    ∃ act : State → State, (∀ s, OnlyPacks s (act s)) ∧ ∀ s, exec (decodeTok w) s = packing s act := by
  unfold decodeTok
  split
  · exact ⟨_, packBits_onlyPacks _ 16, fun _ => rfl⟩
  all_goals exact ⟨_, packMarker_onlyPacks _ _, fun _ => rfl⟩

/-- The operation a `CMD` word runs, row by row of R74; a reserved opcode does nothing (R82). -/
theorem exec_decodeCmd_cases (op : BitVec 3) (ports : Ports) (s : State) :
    (∃ next, exec (decodeCmd op ports) s = starting s next) ∨
    exec (decodeCmd op ports) s = unlessFaulted s setCancel ∨
    exec (decodeCmd op ports) s = unlessFaulted s setArmed ∨
    exec (decodeCmd op ports) s = unlessFaulted s (sampleStep ports.t) ∨
    exec (decodeCmd op ports) s = .next s.notEnabled := by
  unfold decodeCmd
  split
  · exact .inl ⟨_, rfl⟩
  · exact .inl ⟨_, rfl⟩
  · exact .inr (.inl rfl)
  · exact .inr (.inr (.inl rfl))
  · exact .inr (.inr (.inr (.inl rfl)))
  all_goals exact .inr (.inr (.inr (.inr rfl)))

theorem advancing_of_polls {s : State} (noFault : s.fault = 0#2) (live : s.cancel = false) (asks : polls s.seg = true)
    (act : State → State) : advancing s act = .next (act (s.popPq.note .done)) := by
  simp [advancing, (seqReady_iff s).mpr ⟨noFault, live, asks⟩]

theorem exec_sample_of_noFault {s : State} (noFault : s.fault = 0#2) (t : Time) (a : Nat) (f : Freq) (p : Bool) :
    exec (.sample t a f p) s = .next (sampleStep t (s.note .done)) :=
  if_pos noFault

/-! ### Part 1 of a SAMPLE step -/

theorem needNext_of_polls {g : Segment} (asks : polls g = true) : needNext g = true := by
  cases g <;> simp_all [polls, needNext]

/-- A polling segment acts on the head of `PQ`. -/
theorem sequencerPart_of_word {s : State} {w : PuWord} {ws : List PuWord} (live : s.cancel = false)
    (asks : polls s.seg = true) (queued : s.pq = w :: ws) : sequencerPart s = seqDispatch (decodePu w) s.popPq := by
  obtain ⟨cancelled, -⟩ | ⟨-, asksNot, -⟩ | ⟨-, ⟨r, h, ends⟩, -⟩ | ⟨-, -, empty, -⟩ | ⟨-, -, w', ws', queued', acts⟩ :=
    sequencerPart_cases s
  · simp [live] at cancelled
  · simp [needNext_of_polls asks] at asksNot
  · simp [ends, polls] at asks
  · simp [queued] at empty
  · obtain ⟨rfl, -⟩ := List.cons.inj (queued.symm.trans queued')
    exact acts

theorem sequencerPart_of_quiet {s : State} (quiet : s.QuietSequencer) : sequencerPart s = s := by
  obtain ⟨live, settled | ⟨asks, empty⟩⟩ := quiet
  · simp [sequencerPart, live, settled]
  · obtain ⟨cancelled, -⟩ | ⟨-, -, e⟩ | ⟨-, ⟨r, h, ends⟩, -⟩ | ⟨-, -, -, e⟩ | ⟨-, -, w, ws, queued, -⟩ :=
      sequencerPart_cases s
    · simp [live] at cancelled
    · exact e
    · simp [ends, polls] at asks
    · exact e
    · simp [empty] at queued

/-- An exhausted End closes (R143). -/
theorem sequencerPart_of_ending {s : State} {r : Nat} {h : Handle} (live : s.cancel = false)
    (ends : s.seg = .ending r h true) : sequencerPart s = s.setSeg (.off true) := by
  simp [sequencerPart, live, ends, needNext, seqAdvance]

/-- The closed Off stays closed and takes no word (R141). -/
theorem sequencerPart_of_closed {s : State} (closed : s.seg = .off true) : sequencerPart s = s := by
  cases cancelled : s.cancel
  · simp [sequencerPart, cancelled, closed, needNext]
  · simp only [sequencerPart, cancelled, if_true, ← closed]
    rfl

@[simp] theorem isFired_note (s : State) (r : Report) (h : Handle) : (s.note r).isFired h = s.isFired h := rfl

@[simp] theorem ticksAt_note (s : State) (r : Report) (t : Time) : (s.note r).ticksAt t = s.ticksAt t := rfl

theorem segTick_note (s : State) (r : Report) : segTick (s.note r) = (segTick s).note r := by
  rcases seg : s.seg with c | ⟨n, h, e⟩ | ⟨u, k, e⟩ | ⟨n, h, e⟩
  · simp [segTick, seg]
  · by_cases acked : n - 1 = 0 ∨ s.isFired h = true <;> simp only [segTick, seg, State.note_seg, isFired_note, acked] <;>
      rfl
  · simp only [segTick, seg, State.note_seg]
    rfl
  · rcases n with _ | _ | n <;> simp only [segTick, seg, State.note_seg] <;> rfl

theorem boundaryTick_note (s : State) (r : Report) : boundaryTick (s.note r) = (boundaryTick s).note r := by
  simp only [boundaryTick, segTick_note]
  rfl

theorem rasterTick_note (t : Time) (s : State) (r : Report) : rasterTick t (s.note r) = (rasterTick t s).note r := by
  obtain ⟨same, e⟩ | ⟨new, first, e⟩ | ⟨new, second, e⟩ := rasterTick_cases t s <;> rw [e]
  · simp [rasterTick, same]
  · rw [← boundaryTick_note]
    simp only [rasterTick, new, first, ticksAt_note, State.note_switchNext]
    rfl
  · simp only [rasterTick, new, second, ticksAt_note, State.note_switchNext]
    rfl

/-- No part of a SAMPLE step reads what the step before it showed (log 11). -/
theorem samplePart_note (t : Time) (s : State) (r : Report) : samplePart t (s.note r) = samplePart t s := by
  simp only [samplePart, rasterTick_note]
  rfl

/-- A SAMPLE step whose popped word raises InvariantViolation ends there (R176, R193). -/
theorem exec_sample_of_raise {s : State} {w : PuWord} {ws : List PuWord} {code : BitVec 2} (noFault : s.fault = 0#2)
    (live : s.cancel = false) (asks : polls s.seg = true) (queued : s.pq = w :: ws) (codeSet : code ≠ 0#2)
    (raises : ∀ x : State, x.seg = s.seg → seqDispatch (decodePu w) x = x.raise code)
    (t : Time) (a : Nat) (f : Freq) (p : Bool) :
    exec (.sample t a f p) s = .next { s with pq := ws, fault := code, report := .faulted } := by
  have part1 : sequencerPart (s.note .done) = (s.note .done).popPq.raise code :=
    (sequencerPart_of_word (s := s.note .done) live asks queued).trans (raises _ rfl)
  rw [exec_sample_of_noFault noFault]
  obtain ⟨-, ends⟩ | ⟨goesOn, -⟩ := sampleStep_cases t (s.note .done)
  · rw [ends, part1]
    simp [State.raise, State.popPq, State.note, queued]
  · rw [part1] at goesOn
    exact absurd goesOn codeSet

/-- With nothing for the sequencer to do, a SAMPLE step is its parts 2 to 4 (R176). -/
theorem exec_sample_of_quiet {s : State} (noFault : s.fault = 0#2) (quiet : s.QuietSequencer)
    (t : Time) (a : Nat) (f : Freq) (p : Bool) : exec (.sample t a f p) s = .next (samplePart t s) := by
  have part1 : sequencerPart (s.note .done) = s.note .done := sequencerPart_of_quiet (s := s.note .done) quiet
  rw [exec_sample_of_noFault noFault]
  obtain ⟨faults, -⟩ | ⟨-, goesOn⟩ := sampleStep_cases t (s.note .done)
  · rw [part1] at faults
    exact absurd noFault faults
  · rw [goesOn, part1, samplePart_note]

/-! ### The boundary tick, segment by segment -/

theorem firesOnly_fire (s : State) (h : Handle) : firesOnly s.fired (s.fire h).fired h := isFired_fire s h

section
variable {s : State} {r : Nat} {h : Handle} {e : Bool}

theorem boundaryTick_preamble_last (seg : s.seg = .preamble r h e) (last : r ≤ 1 ∨ s.isFired h = true) :
    boundaryTick s = { s.fire h with seg := .preamble (r - 1) h true, phase := !s.phase, riseEn := true } := by
  have cond : r - 1 = 0 ∨ s.isFired h = true := last.imp_left Nat.sub_eq_zero_of_le
  simp [boundaryTick, segTick, segFlip, seg, cond, State.setSeg]

theorem boundaryTick_preamble (seg : s.seg = .preamble r h e) (more : 1 < r) (unfired : s.isFired h = false) :
    boundaryTick s = { s with seg := .preamble (r - 1) h e, phase := !s.phase, riseEn := true } := by
  have cond : ¬ (r - 1 = 0 ∨ s.isFired h = true) := by simp [unfired]; omega
  simp [boundaryTick, segTick, segFlip, seg, cond, State.setSeg]

theorem boundaryTick_ending (seg : s.seg = .ending r h e) (more : 1 < r) :
    boundaryTick s = { s with seg := .ending (r - 1) h e, phase := !s.phase, riseEn := true } := by
  have left : 0 < r := by omega
  have cond : ¬ r - 1 = 0 := by omega
  simp [boundaryTick, segTick, segFlip, seg, left, left.ne', cond, State.setSeg]

theorem boundaryTick_ending_last (seg : s.seg = .ending 1 h e) :
    boundaryTick s = { s.fire h with seg := .ending 0 h true, phase := !s.phase, riseEn := true } := by
  simp [boundaryTick, segTick, segFlip, seg, State.setSeg]

theorem boundaryTick_ending_none (seg : s.seg = .ending 0 h e) : boundaryTick s = { s with riseEn := s.fallEn } := by
  simp [boundaryTick, segTick, segFlip, seg]

end

section
variable {s : State} {u : Byte} {k : Nat} {e : Bool}

theorem unitBit_of_lt (u : Byte) (before : k < 8) : unitBit u k = u.getLsbD (7 - k) := if_pos before

theorem boundaryTick_transmit (seg : s.seg = .transmit u k e) (before : k < 8) :
    boundaryTick s =
      { s with seg := .transmit u (k + 1) (e || decide (k + 1 = 8) || decide (u = 0#8)),
               phase := xor s.phase (!unitBit u k), riseEn := s.fallEn || !unitBit u k } := by
  have exhausts : (if 8 ≤ k + 1 ∨ u = 0#8 then true else e) = (e || decide (k + 1 = 8) || decide (u = 0#8)) := by
    have last : 8 ≤ k + 1 ↔ k + 1 = 8 := by omega
    by_cases zero : u = 0#8 <;> by_cases eighth : k + 1 = 8 <;> simp [last, zero, eighth]
  simp only [boundaryTick, segTick, segFlip, seg, before, if_true, State.setSeg, exhausts]

/-- Past the eighth bit a Transmit reads the bit 0 (R153). -/
theorem boundaryTick_transmit_past (seg : s.seg = .transmit u 8 e) :
    boundaryTick s = { s with seg := .transmit u 8 true, phase := !s.phase, riseEn := true } := by
  simp [boundaryTick, segTick, segFlip, seg, unitBit, State.setSeg]

end

/-! ### Several boundary ticks -/

theorem boundaryTicks_succ (n : Nat) (s : State) : boundaryTicks (n + 1) s = boundaryTick (boundaryTicks n s) := by
  induction n generalizing s with
  | zero => rfl
  | succ n ih => exact ih (boundaryTick s)

theorem boundaryTick_phase (s : State) : (boundaryTick s).phase = xor s.phase (segFlip s.seg) := rfl

theorem boundaryTicks_transmit_seg {s : State} {u : Byte} {k : Nat} {e : Bool} (seg : s.seg = .transmit u k e) (n : Nat)
    (within : k + n ≤ 8) :
    (boundaryTicks n s).seg =
      .transmit u (k + n) (e || (decide (1 ≤ n) && (decide (k + n = 8) || decide (u = 0#8)))) := by
  induction n with
  | zero => simp [boundaryTicks, seg]
  | succ n ih =>
    have before : k + n < 8 := by omega
    have notYet : k + n ≠ 8 := by omega
    rw [boundaryTicks_succ, boundaryTick_transmit (ih (by omega)) before]
    have exhausts : (e || (decide (1 ≤ n) && (decide (k + n = 8) || decide (u = 0#8))) || decide (k + n + 1 = 8)
        || decide (u = 0#8)) = (e || (decide (1 ≤ n + 1) && (decide (k + (n + 1) = 8) || decide (u = 0#8)))) := by
      by_cases zero : u = 0#8 <;> simp [notYet, zero, Nat.add_assoc]
    exact congrArg _ exhausts

/-- A tick with a 0 bit reverses the phase, so a run of 0 bits is a run of reversals (R154). -/
theorem boundaryTicks_phase_of_zeros {s : State} {u : Byte} {k : Nat} {e : Bool} (seg : s.seg = .transmit u k e) (n : Nat)
    (within : k + n ≤ 8) (zeros : ∀ j, j < n → u.getLsbD (7 - (k + j)) = false) :
    (boundaryTicks n s).phase = xor s.phase (decide (n % 2 = 1)) := by
  induction n with
  | zero => simp [boundaryTicks]
  | succ n ih =>
    have before : k + n < 8 := by omega
    have soFar := ih (by omega) fun j hj => zeros j (by omega)
    have flips : segFlip (boundaryTicks n s).seg = true := by
      rw [boundaryTicks_transmit_seg seg n (by omega)]
      simp [segFlip, unitBit_of_lt u before, zeros n (by omega)]
    have parity : decide ((n + 1) % 2 = 1) = !decide (n % 2 = 1) := by
      rw [← decide_not, decide_eq_decide]; omega
    rw [boundaryTicks_succ, boundaryTick_phase, soFar, flips, parity]
    simp

/-! ### Parts 2 to 4 of a SAMPLE step -/

theorem willFlip_eq_flipLaw (g : Segment) : willFlip g = flipLaw g := by
  cases g with
  | transmit u k e => by_cases before : k < 8 <;> simp [willFlip, flipLaw, unitBit, before]
  | _ => rfl

theorem ticksAt_of_newCell {s : State} {t : Time} (new : s.cellValid = false ∨ cellOf s.params t ≠ s.lastCell) :
    s.ticksAt t = true := by
  simpa [State.ticksAt] using new

theorem dips_iff (s : State) (pos : Nat) :
    s.dips pos = true ↔ (!s.switchNext) = true ∧ s.riseEn = true ∧ pos < s.params.rampW ∨
      (!s.switchNext) = false ∧ s.fallEn = true ∧ s.params.cellLen - s.params.rampW ≤ pos := by
  simp [State.dips, and_assoc]

/-- The machine's amplitude is the one R10, R173 and R177 to R179 state. -/
theorem amplitude_eq_amplitudeLaw (s : State) (pos : Nat) :
    s.amplitude pos = amplitudeLaw s.params s.seg (!s.switchNext) s.riseEn s.fallEn pos := by
  have base : s.baseAmplitude pos = if (!s.switchNext) = true ∧ s.riseEn = true ∧ pos < s.params.rampW ∨
      (!s.switchNext) = false ∧ s.fallEn = true ∧ s.params.cellLen - s.params.rampW ≤ pos
      then shapeAt s.params (min pos (min (s.params.cellLen - pos) s.params.rampW)) else s.params.ampOne := by
    simp only [State.baseAmplitude, dips_iff, rampValue, min_assoc]
  rw [State.amplitude, base]
  cases seg : s.seg <;> cases shape : s.params.shape <;>
    simp only [gain, amplitudeLaw, shapeAt, shape, Params.endCycles]

theorem rasterTick_mid {s : State} {t : Time} (new : s.cellValid = false ∨ cellOf s.params t ≠ s.lastCell)
    (second : s.switchNext = false) :
    rasterTick t s =
      { s with lastCell := cellOf s.params t, cellValid := true, switchNext := true, fallEn := flipLaw s.seg } := by
  obtain ⟨same, -⟩ | ⟨-, first, -⟩ | ⟨-, -, ticks⟩ := rasterTick_cases t s
  · simp [ticksAt_of_newCell new] at same
  · simp [second] at first
  · simp [ticks, midTick, willFlip_eq_flipLaw]

/-! ### The closed Off -/

/-- The segment is held and no word leaves `PQ`. -/
def HoldsSegAndQueue (s s' : State) : Prop := s'.seg = s.seg ∧ ∃ ws, s'.pq = s.pq ++ ws

theorem HoldsSegAndQueue.of_eq {s s' : State} (seg : s'.seg = s.seg) (pq : s'.pq = s.pq) : HoldsSegAndQueue s s' :=
  ⟨seg, [], by simp [pq]⟩

theorem exec_decodeTok_holds {w : TokWord} {s s' : State} (ran : exec (decodeTok w) s = .next s') :
    HoldsSegAndQueue s s' := by
  obtain ⟨act, packs, runs⟩ := exec_decodeTok_packing w
  obtain ⟨-, e⟩ | ⟨-, e⟩ := packing_cases s act <;> rw [runs, e, Host.Outcome.next.injEq] at ran <;> subst ran
  · obtain ⟨_, _, _, ws, e'⟩ := packs (s.popTq.note .done)
    rw [e']
    exact ⟨rfl, ws, rfl⟩
  · exact .of_eq rfl rfl

theorem prodStep_holds (s : State) : HoldsSegAndQueue s (prodStep s) := by
  obtain e | ⟨_, _, e⟩ | ⟨_, e⟩ | ⟨-, _, _, e⟩ | ⟨-, _, _, e⟩ := prodStep_cases s <;> rw [e] <;> exact .of_eq rfl rfl

theorem doneFire_holds (s : State) : HoldsSegAndQueue s (doneFire s) := by
  obtain ⟨-, -, -, -, e⟩ | ⟨-, e⟩ := doneFire_cases s <;> rw [e] <;> exact .of_eq rfl rfl

theorem starting_holds {s s' : State} {op : Handle → Machine.Prod} (ran : starting s op = .next s') :
    HoldsSegAndQueue s s' := by
  obtain ⟨-, -, e⟩ | ⟨-, -, _, _, e⟩ | ⟨-, e⟩ := starting_cases s op <;>
    rw [e, Host.Outcome.next.injEq] at ran <;> subst ran <;> exact .of_eq rfl rfl

theorem unlessFaulted_holds {s s' : State} {act : State → State} (holds : HoldsSegAndQueue s (act (s.note .done)))
    (ran : unlessFaulted s act = .next s') : HoldsSegAndQueue s s' := by
  obtain ⟨-, e⟩ | ⟨-, e⟩ := unlessFaulted_cases s act <;> rw [e, Host.Outcome.next.injEq] at ran <;> subst ran
  · exact holds
  · exact .of_eq rfl rfl

/-- The tick of Off, whichever its `closed`, flips nothing and writes nothing of the segment (R157). -/
theorem boundaryTick_off {s : State} {closed : Bool} (seg : s.seg = .off closed) :
    boundaryTick s = { s with riseEn := s.fallEn } := by
  simp [boundaryTick, segTick, segFlip, seg]

theorem rasterTick_off_holds {s : State} {closed : Bool} (seg : s.seg = .off closed) (t : Time) :
    HoldsSegAndQueue s (rasterTick t s) := by
  obtain ⟨-, e⟩ | ⟨-, -, e⟩ | ⟨-, -, e⟩ := rasterTick_cases t s
  · rw [e]
    exact .of_eq rfl rfl
  · rw [e.trans (boundaryTick_off (closed := closed) seg)]
    exact .of_eq rfl rfl
  · rw [e]
    exact .of_eq rfl rfl

theorem sampleStep_closed_holds {s : State} (closed : s.seg = .off true) (t : Time) :
    HoldsSegAndQueue s (sampleStep t s) := by
  obtain ⟨-, e⟩ | ⟨-, e⟩ := sampleStep_cases t s <;> rw [e, sequencerPart_of_closed closed]
  · exact .of_eq rfl rfl
  · exact rasterTick_off_holds closed t

theorem exec_decodeCmd_closed_holds {op : BitVec 3} {ports : Ports} {s s' : State} (closed : s.seg = .off true)
    (ran : exec (decodeCmd op ports) s = .next s') : HoldsSegAndQueue s s' := by
  obtain ⟨_, e⟩ | e | e | e | e := exec_decodeCmd_cases op ports s <;> rw [e] at ran
  · exact starting_holds ran
  · exact unlessFaulted_holds (.of_eq rfl rfl) ran
  · exact unlessFaulted_holds (.of_eq rfl rfl) ran
  · exact unlessFaulted_holds (sampleStep_closed_holds (s := s.note .done) closed ports.t) ran
  · cases ran
    exact .of_eq rfl rfl

theorem takeTurn_closed_holds {turn : Turn} {s s' : State} (closed : s.seg = .off true) (noReset : turn ≠ .reset)
    (taken : takeTurn turn s = .next s') : HoldsSegAndQueue s s' := by
  cases turn with
  | reset => exact absurd rfl noReset
  | host op ports => exact exec_decodeCmd_closed_holds closed taken
  | producer => cases taken; exact prodStep_holds s
  | packer =>
    rcases queue : s.tq with _ | ⟨w, ws⟩ <;> simp only [takeTurn, fetchToken, queue, List.head?, Option.map] at taken
    · cases taken; exact .of_eq rfl rfl
    · exact exec_decodeTok_holds taken
  | watch => cases taken; exact doneFire_holds s
  | donePin level => cases taken; exact .of_eq rfl rfl

/-! ### The statements -/

/-- Settles O38: one bit by the tick's flip, a run of 0 bits by induction on its length. -/
theorem keyingLaw : Obligations.KeyingLaw := by
  intro s u k e seg before
  have flip : (boundaryTick s).phase = xor s.phase (!u.getLsbD (7 - k)) := by
    rw [boundaryTick_transmit seg before, unitBit_of_lt u before]
  refine ⟨fun one => ?_, fun zero => ?_, fun n within zeros => boundaryTicks_phase_of_zeros seg n within zeros⟩
  · simp [flip, one]
  · simp [flip, zero]

/-- Settles O57: no turn but RESET writes the closed Off, and each only appends to `PQ`. -/
theorem closedOffIsTerminal : Obligations.ClosedOffIsTerminal := by
  refine ⟨rfl, fun s s' closed noReset stepped => ?_⟩
  have holds : HoldsSegAndQueue s s' := by
    obtain ⟨-, ⟨-, rfl⟩ | ⟨turn, rest, agenda, taken⟩⟩ := step_cases stepped
    · exact .of_eq rfl rfl
    · have turnNoReset : turn ≠ .reset := fun isReset => noReset (by simp [agenda, isReset])
      exact takeTurn_closed_holds (s := { s with agenda := rest }) closed turnNoReset taken
  exact ⟨holds.1.trans closed, holds.2⟩

/-- Settles O28: the unit's action in Off is the fault entry with code 2. -/
theorem unitInIdleOffFaults : Obligations.UnitInIdleOffFaults := by
  intro s u noFault live idle
  have asks : polls s.seg = true := by rw [idle]; rfl
  have raises : ∀ x : State, x.seg = s.seg → seqUnit u x = x.raise 2#2 := fun x same => by
    simp [seqUnit, same, idle]
  obtain ⟨unitDecodes, -, -, -, -⟩ := puFormatDecodes
  have decoded : decodePu (0#3 ++ u) = .puUnit u := (unitDecodes u).1
  refine ⟨?_, fun ws t a f p queued => ?_⟩
  · exact (advancing_of_polls noFault live asks _).trans (congrArg _ (raises _ rfl))
  · exact exec_sample_of_raise noFault live asks queued (by decide) (fun x same => decoded ▸ raises x same) t a f p

/-- Settles O29: a reserved tag's action is the fault entry with code 1, in every polling segment. -/
theorem reservedUnitFaults : Obligations.ReservedUnitFaults := by
  intro s g d reserved noFault live asks
  obtain ⟨-, -, -, -, reservedDecodes⟩ := puFormatDecodes
  have decoded : decodePu (g ++ d) = .puRsvd g d := reservedDecodes g d reserved
  refine ⟨advancing_of_polls noFault live asks seqRsvd, fun ws t a f p queued => ?_⟩
  exact exec_sample_of_raise noFault live asks queued (by decide) (fun x _ => by rw [decoded]; rfl) t a f p

/-- Settles O35: the last tick of a Preamble and every other one; the example is one of each. -/
theorem preambleTick : Obligations.PreambleTick := by
  refine ⟨fun s r h e seg => ⟨fun last => ?_, fun more unfired => ?_⟩, fun s seg cleared => ?_⟩
  · exact ⟨_, firesOnly_fire s h, boundaryTick_preamble_last seg last⟩
  · exact boundaryTick_preamble seg more unfired
  · have first := boundaryTick_preamble seg (by decide) (by simp [State.isFired, cleared])
    have seg1 : (boundaryTick s).seg = .preamble 1 0 false := by rw [first]
    have second := boundaryTick_preamble_last seg1 (.inl le_rfl)
    refine ⟨seg1, by rw [second], ?_⟩
    rw [second]
    exact (isFired_fire _ 0 0).trans (by simp)

/-- Settles O36: the example reads the segment after `n` ticks off `boundaryTicks_transmit_seg`. -/
theorem transmitTick : Obligations.TransmitTick := by
  refine ⟨fun s u k e seg => ⟨fun b before bit => ?_, fun past => ?_⟩, fun s seg => ⟨?_, fun n => ?_⟩⟩
  · rw [boundaryTick_transmit seg before, unitBit_of_lt u before, bit]
  · subst past
    exact boundaryTick_transmit_past seg
  · exact boundaryTicks_transmit_seg seg 8 le_rfl
  · rw [boundaryTicks_succ, boundaryTick_phase, boundaryTicks_transmit_seg seg n (by omega)]
    rw [← Bool.xor_assoc, Bool.xor_self, Bool.false_xor]
    revert n
    decide

/-- Settles O37: an End with more than one cycle left, with one, with none; the example is the first two and the close. -/
theorem endTick : Obligations.EndTick := by
  refine ⟨fun s r h e seg => ⟨fun more => boundaryTick_ending seg more, fun last => ?_, fun spent => ?_⟩, fun s seg => ?_⟩
  · subst last
    exact ⟨_, firesOnly_fire s h, boundaryTick_ending_last seg⟩
  · subst spent
    exact boundaryTick_ending_none seg
  · have first := boundaryTick_ending seg (by decide)
    have seg1 : (boundaryTick s).seg = .ending 1 5 false := by rw [first]
    have second := boundaryTick_ending_last seg1
    have seg2 : (boundaryTick (boundaryTick s)).seg = .ending 0 5 true := by rw [second]
    refine ⟨seg1, seg2, ?_, fun live => ?_⟩
    · rw [second]
      exact (isFired_fire _ 5 5).trans (by simp)
    · have live2 : (boundaryTick (boundaryTick s)).cancel = false := by rw [second, first]; exact live
      rw [sequencerPart_of_ending live2 seg2]
      rfl

/-- Settles O42: the raster part is the mid tick, and the triple's amplitude is the law's. -/
theorem sampleMidTick : Obligations.SampleMidTick := by
  intro s t cell here new second
  subst here
  refine ⟨?_, fun noFault quiet a f p => exec_sample_of_quiet noFault quiet t a f p⟩
  have tick := rasterTick_mid (t := t) new second
  simp only [samplePart, tick, amplitude_eq_amplitudeLaw]
  rfl

end Sys2Proof
end

section
/-! PROOFS. The sample synthesizer: the ignored operands (R171), what a step can do to the carrier, the phase and `CANCEL`,
the triple (R180, R181), and the raster part in Off (R157, R159, R178). -/

namespace Sys2Proof

open Sys2Proof.Machine

/-! ### What a step can do to the outputs -/

theorem exec_sample (t : Time) (a : Nat) (f : Freq) (p : Bool) (s : State) : exec (.sample t a f p) s = execSample t s :=
  rfl

/-- Whether a report shows a triple (R19 a). -/
def isTriple : Report → Bool
  | .triple _ _ _ => true
  | _ => false

/-- The carrier and the phase are held, `CANCEL` does not fall, and no triple is returned. -/
def HoldsOutputs (s s' : State) : Prop :=
  s'.carrier = s.carrier ∧ s'.phase = s.phase ∧ (s.cancel = true → s'.cancel = true) ∧ isTriple s'.report = false

theorem HoldsOutputs.of_eq {s s' : State} (carrier : s'.carrier = s.carrier) (phase : s'.phase = s.phase)
    (cancel : s'.cancel = s.cancel) (silent : isTriple s'.report = false) : HoldsOutputs s s' :=
  ⟨carrier, phase, cancel.trans, silent⟩

theorem notEnabled_holdsOutputs (s : State) : HoldsOutputs s s.notEnabled := .of_eq rfl rfl rfl rfl

theorem setCancel_holdsOutputs (s : State) : HoldsOutputs s ((setCancel s).note .done) :=
  ⟨rfl, rfl, fun _ => rfl, rfl⟩

theorem starting_holdsOutputs {s s' : State} {op : Handle → Machine.Prod} (ran : starting s op = .next s') :
    HoldsOutputs s s' := by
  obtain ⟨-, -, e⟩ | ⟨-, -, _, _, e⟩ | ⟨-, e⟩ := starting_cases s op <;>
    rw [e, Host.Outcome.next.injEq] at ran <;> subst ran <;> exact .of_eq rfl rfl rfl rfl

theorem unlessFaulted_holdsOutputs {s s' : State} {act : State → State} (holds : HoldsOutputs s (act (s.note .done)))
    (ran : unlessFaulted s act = .next s') : HoldsOutputs s s' := by
  obtain ⟨-, e⟩ | ⟨-, e⟩ := unlessFaulted_cases s act <;> rw [e, Host.Outcome.next.injEq] at ran <;> subst ran
  · exact holds
  · exact notEnabled_holdsOutputs s

theorem exec_decodeTok_holdsOutputs {w : TokWord} {s s' : State} (ran : exec (decodeTok w) s = .next s') :
    HoldsOutputs s s' := by
  obtain ⟨act, packs, runs⟩ := exec_decodeTok_packing w
  obtain ⟨-, e⟩ | ⟨-, e⟩ := packing_cases s act <;> rw [runs, e, Host.Outcome.next.injEq] at ran <;> subst ran
  · obtain ⟨_, _, _, _, e'⟩ := packs (s.popTq.note .done)
    rw [e']
    exact .of_eq rfl rfl rfl rfl
  · exact notEnabled_holdsOutputs s

theorem prodStep_holdsOutputs (s : State) : HoldsOutputs s (prodStep s) := by
  obtain e | ⟨_, _, e⟩ | ⟨_, e⟩ | ⟨-, _, _, e⟩ | ⟨-, _, _, e⟩ := prodStep_cases s <;> rw [e]
  · exact notEnabled_holdsOutputs s
  all_goals refine .of_eq ?_ ?_ ?_ ?_ <;> rfl

theorem doneFire_holdsOutputs (s : State) : HoldsOutputs s (doneFire s) := by
  obtain ⟨-, -, -, -, e⟩ | ⟨-, e⟩ := doneFire_cases s <;> rw [e]
  · exact setCancel_holdsOutputs s
  · exact notEnabled_holdsOutputs s

/-- Of the host's operations only an enabled SAMPLE touches the outputs. -/
theorem exec_decodeCmd_outputs {op : BitVec 3} {ports : Ports} {s s' : State}
    (ran : exec (decodeCmd op ports) s = .next s') :
    HoldsOutputs s s' ∨ (s.fault = 0#2 ∧ s' = sampleStep ports.t (s.note .done)) := by
  obtain ⟨_, e⟩ | e | e | e | e := exec_decodeCmd_cases op ports s <;> rw [e] at ran
  · exact .inl (starting_holdsOutputs ran)
  · exact .inl (unlessFaulted_holdsOutputs (setCancel_holdsOutputs s) ran)
  · exact .inl (unlessFaulted_holdsOutputs (.of_eq rfl rfl rfl rfl) ran)
  · obtain ⟨noFault, e'⟩ | ⟨-, e'⟩ := unlessFaulted_cases s (sampleStep ports.t) <;>
      rw [e', Host.Outcome.next.injEq] at ran <;> subst ran
    · exact .inr ⟨noFault, rfl⟩
    · exact .inl (notEnabled_holdsOutputs s)
  · cases ran
    exact .inl (notEnabled_holdsOutputs s)

theorem takeTurn_outputs {turn : Turn} {s s' : State} (taken : takeTurn turn s = .next s') :
    (turn = .reset ∧ s' = s.applyReset) ∨ HoldsOutputs s s' ∨
      ∃ t, s.fault = 0#2 ∧ s' = sampleStep t (s.note .done) := by
  cases turn with
  | reset => cases taken; exact .inl ⟨rfl, rfl⟩
  | host op ports => exact .inr ((exec_decodeCmd_outputs taken).imp_right fun sampled => ⟨ports.t, sampled⟩)
  | producer => cases taken; exact .inr (.inl (prodStep_holdsOutputs s))
  | packer =>
    refine .inr (.inl ?_)
    rcases queue : s.tq with _ | ⟨w, ws⟩ <;> simp only [takeTurn, fetchToken, queue, List.head?, Option.map] at taken
    · cases taken; exact notEnabled_holdsOutputs s
    · exact exec_decodeTok_holdsOutputs taken
  | watch => cases taken; exact .inr (.inl (doneFire_holdsOutputs s))
  | donePin level => cases taken; exact .inr (.inl (.of_eq rfl rfl rfl rfl))

/-- A step resets, or holds the outputs, or is an enabled SAMPLE step. -/
theorem step_outputs {s s' : State} (stepped : step s = .next s') :
    (s.agenda.head? = some .reset ∧ s'.report = .done) ∨ HoldsOutputs s s' ∨
      ∃ t rest, s.fault = 0#2 ∧ s' = sampleStep t ({ s with agenda := rest }.note .done) := by
  obtain ⟨-, ⟨-, rfl⟩ | ⟨turn, rest, agenda, taken⟩⟩ := step_cases stepped
  · exact .inr (.inl (.of_eq rfl rfl rfl rfl))
  · obtain ⟨rfl, rfl⟩ | holds | ⟨t, noFault, sampled⟩ := takeTurn_outputs taken
    · exact .inl ⟨by simp [agenda], rfl⟩
    · exact .inr (.inl holds)
    · exact .inr (.inr ⟨t, rest, noFault, sampled⟩)

/-! ### The triple of a SAMPLE step -/

theorem seqDispatch_carrier (i : Instr) (s : State) : (seqDispatch i s).carrier = s.carrier := by
  obtain e | ⟨_, e⟩ | ⟨_, e⟩ | ⟨_, e⟩ | ⟨_, -, e⟩ := seqDispatch_cases i s <;> rw [e] <;> rfl

theorem seqDispatch_report (i : Instr) (s : State) :
    (seqDispatch i s).report = s.report ∨ (seqDispatch i s).report = .faulted := by
  obtain e | ⟨_, e⟩ | ⟨_, e⟩ | ⟨_, e⟩ | ⟨_, -, e⟩ := seqDispatch_cases i s <;> rw [e]
  case inr.inr.inr.inr => exact .inr rfl
  all_goals exact .inl rfl

theorem sequencerPart_carrier (s : State) : (sequencerPart s).carrier = s.carrier := by
  obtain ⟨-, e⟩ | ⟨-, -, e⟩ | ⟨-, -, e⟩ | ⟨-, -, -, e⟩ | ⟨-, -, _, _, -, e⟩ := sequencerPart_cases s <;> rw [e]
  case inr.inr.inr.inr => exact seqDispatch_carrier _ _
  all_goals rfl

/-- Part 1 of a SAMPLE step reports nothing but a fault. -/
theorem sequencerPart_report (s : State) :
    (sequencerPart s).report = s.report ∨ (sequencerPart s).report = .faulted := by
  obtain ⟨-, e⟩ | ⟨-, -, e⟩ | ⟨-, -, e⟩ | ⟨-, -, -, e⟩ | ⟨-, -, _, _, -, e⟩ := sequencerPart_cases s <;> rw [e]
  case inr.inr.inr.inr => exact seqDispatch_report _ _
  all_goals exact .inl rfl

theorem rasterTick_carrier (t : Time) (s : State) : (rasterTick t s).carrier = s.carrier := by
  obtain ⟨-, e⟩ | ⟨-, -, e⟩ | ⟨-, -, e⟩ := rasterTick_cases t s <;> rw [e]
  case inr.inl =>
    obtain ⟨_, _, e'⟩ :=
      boundaryTick_only { s with lastCell := cellOf s.params t, cellValid := true, switchNext := false }
    rw [e']
  all_goals rfl

/-- R180 and R181, of parts 2 to 4 of a SAMPLE step. -/
theorem samplePart_report (t : Time) (s : State) :
    ∃ amp, (samplePart t s).report = .triple amp s.carrier (samplePart t s).phase :=
  ⟨_, congrArg (Report.triple _ · _) (rasterTick_carrier t s)⟩

/-- R180 and R181, of a SAMPLE step. It starts with the report `done`, so a triple in its report is its own. -/
theorem sampleStep_triple {t : Time} {s : State} {amp : Nat} {freq : Freq} {ph : Bool} (fresh : s.report = .done)
    (returned : (sampleStep t s).report = .triple amp freq ph) : freq = s.carrier ∧ ph = (sampleStep t s).phase := by
  obtain ⟨-, e⟩ | ⟨-, e⟩ := sampleStep_cases t s <;> rw [e] at returned ⊢
  · obtain same | faulted := sequencerPart_report s
    · simp [same, fresh] at returned
    · simp [faulted] at returned
  · obtain ⟨_, shown⟩ := samplePart_report t (sequencerPart s)
    obtain ⟨-, rfl, rfl⟩ := Report.triple.inj (returned.symm.trans shown)
    exact ⟨sequencerPart_carrier s, rfl⟩

/-! ### Parts 2 to 4 of a SAMPLE step in Off -/

theorem gain_off (p : Params) (closed : Bool) (base : Nat) : gain p (.off closed) base = 0 := rfl

theorem amplitude_off {s : State} {closed : Bool} (off : s.seg = .off closed) (pos : Nat) : s.amplitude pos = 0 := by
  rw [State.amplitude, off, gain_off]

theorem ticksAt_eq_false_iff (s : State) (t : Time) :
    s.ticksAt t = false ↔ s.cellValid = true ∧ s.lastCell = cellOf s.params t := by
  simp [State.ticksAt, @eq_comm _ s.lastCell]

/-- In Off a tick forecasts no flip (mid, R159) or passes `FALL_EN` on to `RISE_EN` (boundary, R150, R157). -/
theorem rasterTick_off {s : State} {closed : Bool} (off : s.seg = .off closed) (t : Time) :
    rasterTick t s =
      { s with
        lastCell := cellOf s.params t
        cellValid := true
        switchNext := xor s.switchNext (s.ticksAt t)
        fallEn := if s.ticksAt t = true ∧ s.switchNext = false then false else s.fallEn
        riseEn := if s.ticksAt t = true ∧ s.switchNext = true then s.fallEn else s.riseEn } := by
  obtain ⟨same, e⟩ | ⟨new, first, e⟩ | ⟨new, second, e⟩ := rasterTick_cases t s
  · obtain ⟨valid, cell⟩ := (ticksAt_eq_false_iff s t).mp same
    have kept : { s with lastCell := cellOf s.params t, cellValid := true } = s := by rw [← cell, ← valid]
    simp [e, same, kept]
  · rw [e.trans (boundaryTick_off (closed := closed) off)]
    simp [new, first]
  · simp [e, midTick, willFlip, off, new, second]

theorem samplePart_off {s : State} {closed : Bool} (off : s.seg = .off closed) (t : Time) :
    samplePart t s =
      { s with
        lastCell := cellOf s.params t
        cellValid := true
        switchNext := xor s.switchNext (s.ticksAt t)
        fallEn := if s.ticksAt t = true ∧ s.switchNext = false then false else s.fallEn
        riseEn := if s.ticksAt t = true ∧ s.switchNext = true then s.fallEn else s.riseEn
        report := .triple 0 s.carrier s.phase } := by
  have offAfter : (rasterTick t s).seg = .off closed := by rw [rasterTick_off off]; exact off
  simp only [samplePart, amplitude_off offAfter]
  rw [rasterTick_off off]
  rfl

/-! ### The cancelled block -/

/-- The cancellation pin (R131) never faults, so the SAMPLE step goes on with its other parts. -/
theorem sampleStep_of_cancel {s : State} (noFault : s.fault = 0#2) (cancelled : s.cancel = true) (t : Time) :
    sampleStep t s = samplePart t (s.setSeg (.off true)) := by
  have pinned : sequencerPart s = s.setSeg (.off true) := by simp [sequencerPart, cancelled]
  obtain ⟨faults, -⟩ | ⟨-, goesOn⟩ := sampleStep_cases t s
  · rw [pinned] at faults
    exact absurd noFault faults
  · rw [goesOn, pinned]

theorem sampleStep_keeps_cancelled {s : State} (noFault : s.fault = 0#2) (cancelled : s.cancel = true) (t : Time) :
    (sampleStep t s).cancel = true ∧ (sampleStep t s).carrier = s.carrier ∧ (sampleStep t s).phase = s.phase := by
  rw [sampleStep_of_cancel noFault cancelled, samplePart_off rfl]
  exact ⟨cancelled, rfl, rfl⟩

/-! ### The statements -/

/-- Settles O48: the meaning of SAMPLE takes the timestamp alone. -/
theorem sampleIgnoresDriverOperands : Obligations.SampleIgnoresDriverOperands :=
  fun s t a a' f f' p p' => (exec_sample t a f p s).trans (exec_sample t a' f' p' s).symm

/-- Settles O49: of all steps only an enabled SAMPLE returns a triple. -/
theorem frequencyIsAlwaysTheCarrier : Obligations.FrequencyIsAlwaysTheCarrier := by
  intro s s' amp freq ph stepped returned
  obtain ⟨-, done⟩ | ⟨-, -, -, silent⟩ | ⟨t, rest, -, rfl⟩ := step_outputs stepped
  · simp [done] at returned
  · simp [returned, isTriple] at silent
  · exact sampleStep_triple (s := { s with agenda := rest }.note .done) rfl returned

/-- Settles O50: the pin leaves parts 2 to 4 in Off; every other step but RESET holds the outputs. -/
theorem cancelledBlockIsSilentForever : Obligations.CancelledBlockIsSilentForever := by
  refine ⟨gain_off, fun s t cell tick a f p noFault cancelled here ticks => ?_,
    fun s s' stepped noReset cancelled => ?_⟩
  · subst here ticks
    rw [exec_sample_of_noFault noFault, sampleStep_of_cancel (s := s.note .done) noFault cancelled, samplePart_off rfl]
    rfl
  · obtain ⟨reset, -⟩ | ⟨carrier, phase, sticky, -⟩ | ⟨t, rest, noFault, rfl⟩ := step_outputs stepped
    · exact absurd reset noReset
    · exact ⟨sticky cancelled, carrier, phase⟩
    · exact sampleStep_keeps_cancelled (s := { s with agenda := rest }.note .done) noFault cancelled t

end Sys2Proof
end

section
/-! PROOFS. RESET (R210): a turn on the agenda is taken whatever else the state holds, and RESET restores the registers. -/

namespace Sys2Proof

open Sys2Proof.Machine

/-- With a valid configuration a step takes the turn at the head of the agenda (R6). -/
theorem step_of_agenda {s : State} {turn : Turn} {rest : List Turn} (valid : s.params.valid = true)
    (agenda : s.agenda = turn :: rest) : step s = takeTurn turn { s with agenda := rest } := by
  simp [step, valid, agenda]

/-- RESET has no condition on the state: no fault, cancellation or operation in flight stops it (R210). -/
theorem takeTurn_reset (s : State) : takeTurn .reset s = .next s.applyReset := rfl

theorem step_reset {s : State} {rest : List Turn} (valid : s.params.valid = true) (agenda : s.agenda = .reset :: rest) :
    step s = .next ({ s with agenda := rest } : State).applyReset := by
  rw [step_of_agenda valid agenda, takeTurn_reset]

/-! ### The statement -/

/-- Settles O51: the step is `applyReset`, whose free values are those the statement leaves open (U4, U5). -/
theorem resetRestoresEveryRegister : Obligations.ResetRestoresEveryRegister := fun s _ valid agenda =>
  ⟨Config.freeLastCell s.freeCount,
    { n := Config.freeResultCount s.freeCount, err := Config.freeResultErr s.freeCount }, s.freeCount + 1,
    step_reset valid agenda⟩

end Sys2Proof
end

section
/-! PROOFS. Words: the decoder undoes the encoder (R70 to R74), and every word decodes to a well-formed instruction. -/

namespace Sys2Proof

open Sys2Proof.Machine

/-! ### A word is its fields -/

theorem isReserved_iff (g : Tag) : Tag.isReserved g = true ↔ 4 ≤ g.toNat := by
  simp [Tag.isReserved]

/-- The rows of a format by tag (R71, R73): four of their own, and the reserved ones. -/
theorem tag_cases (g : Tag) : g = 0#3 ∨ g = 1#3 ∨ g = 2#3 ∨ g = 3#3 ∨ 4 ≤ g.toNat := by
  revert g
  decide

theorem tokTag_append_tokPattern (w : TokWord) : tokTag w ++ tokPattern w = w :=
  (BitVec.extractLsb'_append_extractLsb'_eq_extractLsb' rfl).trans BitVec.extractLsb'_eq_self

theorem puWord_fields (w : PuWord) : puWord (puTag w) (puData w) = w :=
  (BitVec.extractLsb'_append_extractLsb'_eq_extractLsb' rfl).trans BitVec.extractLsb'_eq_self

theorem tokPattern_of_upper_zero {w : TokWord} (upper : w.extractLsb' 8 8 = 0#8) : tokPattern w = 0#8 ++ tokLow w := by
  rw [← upper]
  exact (BitVec.extractLsb'_append_extractLsb'_eq_extractLsb' (x := w) (start₁ := 0) (len₁ := 8) rfl).symm

theorem tokMarker_fields {w : TokWord} (upper : w.extractLsb' 8 8 = 0#8) : tokMarker (tokTag w) (tokLow w) = w := by
  rw [tokMarker, ← tokPattern_of_upper_zero upper, tokTag_append_tokPattern]

/-! ### What a word decodes to -/

theorem decodeTok_wellFormed (w : TokWord) : (decodeTok w).wellFormed = true := by
  obtain g | g | g | g | g := tag_cases (tokTag w)
  · rw [decodeTok_of_tag_data g]; rfl
  · rw [decodeTok_of_tag_pre g]; rfl
  · rw [decodeTok_of_tag_eom g]; rfl
  · rw [decodeTok_of_tag_eos g]; rfl
  · rw [decodeTok_of_tag_reserved g]; exact (isReserved_iff _).mpr g

theorem decodePu_wellFormed (w : PuWord) : (decodePu w).wellFormed = true := by
  obtain g | g | g | g | g := tag_cases (puTag w)
  · rw [decodePu_of_tag_unit g]; rfl
  · rw [decodePu_of_tag_pre g]; rfl
  · rw [decodePu_of_tag_eom g]; rfl
  · rw [decodePu_of_tag_eos g]; rfl
  · rw [decodePu_of_tag_reserved g]; exact (isReserved_iff _).mpr g

theorem decodeCmd_wellFormed (op : BitVec 3) (ports : Ports) : (decodeCmd op ports).wellFormed = true := by
  unfold decodeCmd
  split <;> rfl

/-- Encoding a decoded `PU` word puts its two fields together again. -/
theorem encode_decodePu (w : PuWord) : encode (decodePu w) = .pu w := by
  have fields : ∀ g, puTag w = g → Word.pu (puWord g (puData w)) = .pu w := fun g tag => by
    rw [← tag, puWord_fields]
  obtain g | g | g | g | g := tag_cases (puTag w)
  · rw [decodePu_of_tag_unit g]; exact fields _ g
  · rw [decodePu_of_tag_pre g]; exact fields _ g
  · rw [decodePu_of_tag_eom g]; exact fields _ g
  · rw [decodePu_of_tag_eos g]; exact fields _ g
  · rw [decodePu_of_tag_reserved g]; exact fields _ rfl

/-- A data token is encoded back whatever its payload: it has no ignored byte (R71). -/
theorem encode_decodeTok_data {w : TokWord} (tag : tokTag w = 0#3) : encode (decodeTok w) = .tok w := by
  rw [decodeTok_of_tag_data tag]
  refine congrArg Word.tok ?_
  rw [tokDataWord, ← tag, tokTag_append_tokPattern]

/-- A marker is encoded back when its ignored byte is the zero the encoder writes (log 21). -/
theorem encode_decodeTok_marker {w : TokWord} (upper : w.extractLsb' 8 8 = 0#8) : encode (decodeTok w) = .tok w := by
  have fields : ∀ g, tokTag w = g → Word.tok (tokMarker g (tokLow w)) = .tok w := fun g tag => by
    rw [← tag, tokMarker_fields upper]
  obtain g | g | g | g | g := tag_cases (tokTag w)
  · exact encode_decodeTok_data g
  · rw [decodeTok_of_tag_pre g]; exact fields _ g
  · rw [decodeTok_of_tag_eom g]; exact fields _ g
  · rw [decodeTok_of_tag_eos g]; exact fields _ g
  · rw [decodeTok_of_tag_reserved g]; exact fields _ rfl

/-! ### The statements -/

/-- Settles O1: the two queue formats by their statements O3 and O4, the host format by computation. -/
theorem decodeEncodeRoundTrip : Obligations.DecodeEncodeRoundTrip := by
  obtain ⟨tokData, tokPre, tokEom, tokEos, tokRsvd, -⟩ := tokFormatDecodes
  obtain ⟨puUnit, puPre, puEom, puEos, puRsvd⟩ := puFormatDecodes
  intro i wf
  cases i with
  | tokData p => exact tokData p
  | tokPre h => exact tokPre 0#8 h
  | tokEom h => exact tokEom 0#8 h
  | tokEos h => exact tokEos 0#8 h
  | tokRsvd g d => exact tokRsvd g 0#8 d ((isReserved_iff g).mp wf)
  | puUnit u => exact (puUnit u).1
  | puPre h => exact puPre h
  | puEom h => exact puEom h
  | puEos h => exact puEos h
  | puRsvd g d => exact puRsvd g d ((isReserved_iff g).mp wf)
  | _ => rfl

/-- Settles O2: each format by the tag of its word. -/
theorem wordsDecodeWellFormedAndReencode : Obligations.WordsDecodeWellFormedAndReencode := by
  refine ⟨fun w => ?_, encode_decodePu, fun w known => known.elim encode_decodeTok_data encode_decodeTok_marker⟩
  cases w with
  | tok w => exact decodeTok_wellFormed w
  | pu w => exact decodePu_wellFormed w
  | cmd op ports => exact decodeCmd_wellFormed op ports

/-- Settles O5: the words are those of the spec's table, and the decoder computes. -/
theorem specTableWordsDecode : Obligations.SpecTableWordsDecode := by
  unfold Obligations.SpecTableWordsDecode
  decide

end Sys2Proof
end

section
/-! PROOFS. What a turn can do (R6), and the steps by the turn at the head of the agenda. -/

namespace Sys2Proof

open Sys2Proof.Machine

/-! ### Conditions that fail -/

theorem notEnabled_of_not_packReady {s : State} (blocked : s.packReady = false) (act : State → State) :
    packing s act = .next s.notEnabled := by
  simp [packing, blocked]

theorem notEnabled_of_not_seqReady {s : State} (blocked : s.seqReady = false) (act : State → State) :
    advancing s act = .next s.notEnabled := by
  simp [advancing, blocked]

/-! ### The rows as their shared operations -/

theorem exec_write (bytes : List Byte) (s : State) : exec (.write bytes) s = starting s (.write bytes 0 .pre) := rfl

theorem exec_endSession (s : State) : exec .endSession s = starting s (.ends .eos) := rfl

theorem exec_closeSession (s : State) : exec .closeSession s = unlessFaulted s setCancel := rfl

theorem exec_abortWhenDone (s : State) : exec .abortWhenDone s = unlessFaulted s setArmed := rfl

theorem exec_decodeCmd_sample (ports : Ports) (s : State) :
    exec (decodeCmd 4#3 ports) s = unlessFaulted s (sampleStep ports.t) := rfl

/-- Every `PU` word is run as one SEQ_ADVANCE, whose action is the dispatch of the decoded word. -/
theorem exec_decodePu (w : PuWord) (s : State) : exec (decodePu w) s = advancing s (seqDispatch (decodePu w)) := by
  obtain g | g | g | g | g := tag_cases (puTag w)
  · rw [decodePu_of_tag_unit g]; rfl
  · rw [decodePu_of_tag_pre g]; rfl
  · rw [decodePu_of_tag_eom g]; rfl
  · rw [decodePu_of_tag_eos g]; rfl
  · rw [decodePu_of_tag_reserved g]; rfl

/-- The packer runs a word as PACK_DATA of its pattern or as the pass-through of its own tag and low byte. -/
theorem exec_decodeTok_cases (w : TokWord) :
    (tokTag w = 0#3 ∧ ∀ s, exec (decodeTok w) s = packing s (packData (tokPattern w))) ∨
    (tokTag w ≠ 0#3 ∧ ∀ s, exec (decodeTok w) s = packing s (packMarker (tokTag w) (tokLow w))) := by
  obtain g | g | g | g | g := tag_cases (tokTag w)
  · exact .inl ⟨g, fun s => by rw [decodeTok_of_tag_data g]; rfl⟩
  · exact .inr ⟨by simp [g], fun s => by rw [decodeTok_of_tag_pre g, g]; rfl⟩
  · exact .inr ⟨by simp [g], fun s => by rw [decodeTok_of_tag_eom g, g]; rfl⟩
  · exact .inr ⟨by simp [g], fun s => by rw [decodeTok_of_tag_eos g, g]; rfl⟩
  · exact .inr ⟨fun zero => by simp [zero] at g, fun s => by rw [decodeTok_of_tag_reserved g]; rfl⟩

/-- The first stage of an operation that has just started (R90, R96). -/
def firstStage : Machine.Prod → Bool
  | .write _ idx stage _ => idx == 0 && stage == .pre
  | .ends stage _ => stage == .eos
  | .idle => false

/-- The operation a `CMD` word other than SAMPLE runs (R74, R82). -/
theorem exec_decodeCmd_of_not_sample {op : BitVec 3} (other : op ≠ 4#3) (ports : Ports) (s : State) :
    (∃ next, (∀ h, firstStage (next h) = true) ∧ exec (decodeCmd op ports) s = starting s next) ∨
    exec (decodeCmd op ports) s = unlessFaulted s setCancel ∨
    exec (decodeCmd op ports) s = unlessFaulted s setArmed ∨
    exec (decodeCmd op ports) s = .next s.notEnabled := by
  unfold decodeCmd
  split
  case h_5 is4 => exact absurd (BitVec.eq_of_toNat_eq is4) other
  · exact .inl ⟨_, fun _ => rfl, rfl⟩
  · exact .inl ⟨_, fun _ => rfl, rfl⟩
  · exact .inr (.inl rfl)
  · exact .inr (.inr (.inl rfl))
  all_goals exact .inr (.inr (.inr rfl))

/-! ### Every instruction answers a next state -/

theorem packing_answers (s : State) (act : State → State) : ∃ s', packing s act = .next s' := by
  obtain ⟨-, e⟩ | ⟨-, e⟩ := packing_cases s act <;> exact ⟨_, e⟩

theorem advancing_answers (s : State) (act : State → State) : ∃ s', advancing s act = .next s' := by
  obtain ⟨-, e⟩ | ⟨-, e⟩ := advancing_cases s act <;> exact ⟨_, e⟩

theorem unlessFaulted_answers (s : State) (act : State → State) : ∃ s', unlessFaulted s act = .next s' := by
  obtain ⟨-, e⟩ | ⟨-, e⟩ := unlessFaulted_cases s act <;> exact ⟨_, e⟩

theorem starting_answers (s : State) (op : Handle → Machine.Prod) : ∃ s', starting s op = .next s' := by
  obtain ⟨-, -, e⟩ | ⟨-, -, _, _, e⟩ | ⟨-, e⟩ := starting_cases s op <;> exact ⟨_, e⟩

/-- No instruction ends a run: each is one of the shared operations, and each of these answers. -/
theorem exec_answers (i : Instr) (s : State) : ∃ s', exec i s = .next s' := by
  cases i with
  | tokData p => exact packing_answers s (packData p)
  | tokPre h => exact packing_answers s (packMarker 1#3 h)
  | tokEom h => exact packing_answers s (packMarker 2#3 h)
  | tokEos h => exact packing_answers s (packMarker 3#3 h)
  | tokRsvd g d => exact packing_answers s (packMarker g d)
  | puUnit u => exact advancing_answers s (seqUnit u)
  | puPre h => exact advancing_answers s (seqPre h)
  | puEom h => exact advancing_answers s (seqEom h)
  | puEos h => exact advancing_answers s (seqEos h)
  | puRsvd g d => exact advancing_answers s seqRsvd
  | write bytes => exact starting_answers s _
  | endSession => exact starting_answers s _
  | closeSession => exact unlessFaulted_answers s setCancel
  | abortWhenDone => exact unlessFaulted_answers s setArmed
  | sample t a f p => exact unlessFaulted_answers s (sampleStep t)
  | cmdRsvd5 => exact ⟨_, exec_cmdRsvd5 s⟩
  | cmdRsvd6 => exact ⟨_, exec_cmdRsvd6 s⟩
  | cmdRsvd7 => exact ⟨_, exec_cmdRsvd7 s⟩

/-! ### The packer's turn -/

theorem takeTurn_packer_of_token {s : State} {w : TokWord} {ws : List TokWord} (queued : s.tq = w :: ws) :
    takeTurn .packer s = exec (decodeTok w) s := by
  simp [takeTurn, fetchToken, queued]

theorem takeTurn_packer_of_empty {s : State} (empty : s.tq = []) : takeTurn .packer s = .next s.notEnabled := by
  simp [takeTurn, fetchToken, empty]

theorem takeTurn_answers (turn : Turn) (s : State) : ∃ s', takeTurn turn s = .next s' := by
  cases turn with
  | host op ports => exact exec_answers (decodeCmd op ports) s
  | packer =>
    rcases queue : s.tq with _ | ⟨w, ws⟩
    · exact ⟨_, takeTurn_packer_of_empty queue⟩
    · rw [takeTurn_packer_of_token queue]; exact exec_answers _ s
  | _ => exact ⟨_, rfl⟩

/-! ### What a turn can do -/

/-- What a turn makes of a state, agent by agent: RESET, a change of the pin, a step that is not enabled, or an enabled
step with the condition it was enabled by (R6). -/
inductive TurnEffect (s : State) : Turn → State → Prop
  | reset : TurnEffect s .reset s.applyReset
  | pin (level : Bool) : TurnEffect s (.donePin level) { s with donePin := level, report := .idle }
  | stuck (turn : Turn) : turn ≠ .reset → TurnEffect s turn s.notEnabled
  | sample (ports : Ports) : s.fault = 0#2 → TurnEffect s (.host 4#3 ports) (sampleStep ports.t (s.note .done))
  | start (op : BitVec 3) (ports : Ports) (p : Machine.Prod) (k : Nat) : op ≠ 4#3 → s.fault = 0#2 → s.prod = .idle →
      firstStage p = true → TurnEffect s (.host op ports) { (s.setProd p).note .done with freeCount := k }
  | startFails (op : BitVec 3) (ports : Ports) : op ≠ 4#3 → s.fault = 0#2 → s.prod = .idle →
      TurnEffect s (.host op ports) (s.complete 0 true)
  | close (op : BitVec 3) (ports : Ports) : op ≠ 4#3 → s.fault = 0#2 →
      TurnEffect s (.host op ports) (setCancel (s.note .done))
  | arm (op : BitVec 3) (ports : Ports) : op ≠ 4#3 → s.fault = 0#2 →
      TurnEffect s (.host op ports) (setArmed (s.note .done))
  | produce : s.fault = 0#2 → TurnEffect s .producer (prodStep s)
  | watch : s.fault = 0#2 → TurnEffect s .watch ((setCancel s).note .done)
  | packData (w : TokWord) (ws : List TokWord) : s.fault = 0#2 → 3 ≤ s.pqFree → s.tq = w :: ws → tokTag w = 0#3 →
      TurnEffect s .packer (packData (tokPattern w) (s.popTq.note .done))
  | packMarker (w : TokWord) (ws : List TokWord) : s.fault = 0#2 → 3 ≤ s.pqFree → s.tq = w :: ws → tokTag w ≠ 0#3 →
      TurnEffect s .packer (packMarker (tokTag w) (tokLow w) (s.popTq.note .done))

theorem prodStep_of_fault {s : State} (faulted : s.fault ≠ 0#2) : prodStep s = s.notEnabled :=
  if_neg faulted

/-- A host turn: SAMPLE, or one of the operations that only reach the producer, the watcher and `CANCEL`. -/
theorem exec_decodeCmd_effect {op : BitVec 3} {ports : Ports} {s s' : State}
    (ran : exec (decodeCmd op ports) s = .next s') : TurnEffect s (.host op ports) s' := by
  have stuck : TurnEffect s (.host op ports) s.notEnabled := .stuck _ nofun
  by_cases isSample : op = 4#3
  · subst isSample
    rw [exec_decodeCmd_sample] at ran
    obtain ⟨noFault, e⟩ | ⟨-, e⟩ := unlessFaulted_cases s (sampleStep ports.t) <;> cases e.symm.trans ran
    · exact .sample ports noFault
    · exact stuck
  · obtain ⟨next, first, e⟩ | e | e | e := exec_decodeCmd_of_not_sample isSample ports s <;> rw [e] at ran
    · obtain ⟨ready, -, e⟩ | ⟨ready, -, h, k, e⟩ | ⟨-, e⟩ := starting_cases s next <;> cases e.symm.trans ran
      · obtain ⟨noFault, idle⟩ := (startReady_iff s).mp ready
        exact .startFails op ports isSample noFault idle
      · obtain ⟨noFault, idle⟩ := (startReady_iff s).mp ready
        exact .start op ports (next h) k isSample noFault idle (first h)
      · exact stuck
    · obtain ⟨noFault, e⟩ | ⟨-, e⟩ := unlessFaulted_cases s setCancel <;> cases e.symm.trans ran
      · exact .close op ports isSample noFault
      · exact stuck
    · obtain ⟨noFault, e⟩ | ⟨-, e⟩ := unlessFaulted_cases s setArmed <;> cases e.symm.trans ran
      · exact .arm op ports isSample noFault
      · exact stuck
    · cases ran
      exact stuck

/-- Said once: what any turn can do. The facts about every step are case splits over this. -/
theorem takeTurn_effect {turn : Turn} {s s' : State} (taken : takeTurn turn s = .next s') : TurnEffect s turn s' := by
  cases turn with
  | reset => cases taken; exact .reset
  | donePin level => cases taken; exact .pin level
  | host op ports => exact exec_decodeCmd_effect taken
  | producer =>
    cases taken
    by_cases noFault : s.fault = 0#2
    · exact .produce noFault
    · rw [prodStep_of_fault noFault]; exact .stuck _ nofun
  | watch =>
    cases taken
    obtain ⟨noFault, -, -, -, e⟩ | ⟨-, e⟩ := doneFire_cases s <;> rw [e]
    · exact .watch noFault
    · exact .stuck _ nofun
  | packer =>
    rcases queue : s.tq with _ | ⟨w, ws⟩
    · cases (takeTurn_packer_of_empty queue).symm.trans taken
      exact .stuck _ nofun
    · rw [takeTurn_packer_of_token queue] at taken
      obtain ⟨tag, runs⟩ | ⟨tag, runs⟩ := exec_decodeTok_cases w <;> rw [runs] at taken
      · obtain ⟨ready, e⟩ | ⟨-, e⟩ := packing_cases s (packData (tokPattern w)) <;> cases e.symm.trans taken
        · obtain ⟨noFault, -, room⟩ := (packReady_iff s).mp ready
          exact .packData w ws noFault room queue tag
        · exact .stuck _ nofun
      · obtain ⟨ready, e⟩ | ⟨-, e⟩ := packing_cases s (packMarker (tokTag w) (tokLow w)) <;> cases e.symm.trans taken
        · obtain ⟨noFault, -, room⟩ := (packReady_iff s).mp ready
          exact .packMarker w ws noFault room queue tag
        · exact .stuck _ nofun

/-- A step: nobody moved, or the head turn had its effect on the state without it. -/
theorem step_effect {s s' : State} (stepped : step s = .next s') :
    (s.agenda = [] ∧ s' = s.note .idle) ∨
      ∃ turn rest, s.agenda = turn :: rest ∧ TurnEffect { s with agenda := rest } turn s' := by
  obtain ⟨-, nobody | ⟨turn, rest, agenda, taken⟩⟩ := step_cases stepped
  · exact .inl nobody
  · exact .inr ⟨turn, rest, agenda, takeTurn_effect taken⟩

theorem ne_reset_of_noResetNext {s : State} {turn : Turn} {rest : List Turn} (noReset : s.NoResetNext)
    (agenda : s.agenda = turn :: rest) : turn ≠ .reset := fun isReset => noReset (by simp [agenda, isReset])

/-! ### The statements -/

/-- Settles O10: every turn answers, so a valid configuration steps. -/
theorem stepStopsOnlyOnBadConfiguration : Obligations.StepStopsOnlyOnBadConfiguration := by
  refine fun s => ⟨fun valid => ?_, fun invalid => by simp [step, invalid]⟩
  rcases agenda : s.agenda with _ | ⟨turn, rest⟩
  · exact ⟨s.note .idle, by simp [step, valid, agenda]⟩
  · rw [step_of_agenda valid agenda]
    exact takeTurn_answers turn _

/-- Settles O6: the head turn is taken, and a host turn is the decoded command. -/
theorem hostTurnRunsDecodedCommand : Obligations.HostTurnRunsDecodedCommand :=
  fun _ _ _ _ valid agenda => step_of_agenda valid agenda

/-- Settles O7: the head turn is taken, with a token queued or none. -/
theorem packerTurnRunsDecodedToken : Obligations.PackerTurnRunsDecodedToken := by
  refine fun s rest valid agenda => ⟨fun w ws queued => ?_, fun empty => ?_⟩ <;> rw [step_of_agenda valid agenda]
  · exact takeTurn_packer_of_token (s := { s with agenda := rest }) queued
  · exact takeTurn_packer_of_empty (s := { s with agenda := rest }) empty

/-- Settles O9: each of these turns is its own step. -/
theorem turnsWithoutAWord : Obligations.TurnsWithoutAWord := by
  refine fun s rest valid => ⟨step_of_agenda valid, step_of_agenda valid, fun b => step_of_agenda valid, fun empty => ?_⟩
  simp [step, valid, empty, State.note]

/-- Settles O56: after a fault every turn but RESET is stuck or moves the pin. -/
theorem faultHaltsTheBlock : Obligations.FaultHaltsTheBlock := by
  intro s s' faulted noReset stepped
  obtain ⟨-, rfl⟩ | ⟨turn, rest, agenda, effect⟩ := step_effect stepped
  · exact ⟨⟨_, _, _, rfl⟩, .inr rfl⟩
  · cases effect with
    | reset => exact absurd rfl (ne_reset_of_noResetNext noReset agenda)
    | pin level => exact ⟨⟨_, _, _, rfl⟩, .inr rfl⟩
    | stuck => exact ⟨⟨_, _, _, rfl⟩, .inl rfl⟩
    | _ => exact absurd ‹_› faulted

end Sys2Proof
end

section
/-! PROOFS. The token producer: the start steps (R90, R96), the host's flags (R99 to R101), PROD_STEP stage by stage (R91
to R98), and the tokens of a whole WRITE (R103). -/

namespace Sys2Proof

open Sys2Proof.Machine

/-! ### Start steps -/

theorem starting_of_ready {s : State} (noFault : s.fault = 0#2) (idle : s.prod = .idle) (live : s.cancel = false)
    (op : Handle → Machine.Prod) :
    ∃ h k, starting s op = .next { s with prod := op h, report := .done, freeCount := k } := by
  have ready := (startReady_iff s).mpr ⟨noFault, idle⟩
  obtain ⟨-, cancelled, -⟩ | ⟨-, -, h, k, e⟩ | ⟨blocked, -⟩ := starting_cases s op
  · simp [live] at cancelled
  · exact ⟨h, k, e⟩
  · simp [ready] at blocked

theorem complete_of_idle {s : State} (idle : s.prod = .idle) (n : Nat) (e : Bool) :
    s.complete n e = { s with result := { n := n, err := e }, report := .completed n e } := by
  rw [State.complete, ← idle]

theorem starting_of_cancel {s : State} (noFault : s.fault = 0#2) (idle : s.prod = .idle) (cancelled : s.cancel = true)
    (op : Handle → Machine.Prod) : starting s op = .next (s.complete 0 true) := by
  simp [starting, (startReady_iff s).mpr ⟨noFault, idle⟩, cancelled]

theorem starting_of_not_ready {s : State} (blocked : s.fault ≠ 0#2 ∨ s.prod ≠ .idle) (op : Handle → Machine.Prod) :
    starting s op = .next s.notEnabled := by
  have notReady : ¬ s.startReady = true := fun ready =>
    blocked.elim (absurd ((startReady_iff s).mp ready).1) (absurd ((startReady_iff s).mp ready).2)
  exact if_neg notReady

/-- The two operations that have a start step. -/
theorem exec_of_start {i : Instr} (start : i = .endSession ∨ ∃ bytes, i = .write bytes) :
    ∃ op, ∀ s, exec i s = starting s op := by
  obtain rfl | ⟨bytes, rfl⟩ := start
  · exact ⟨_, exec_endSession⟩
  · exact ⟨_, exec_write bytes⟩

/-! ### The host's flags -/

theorem unlessFaulted_of_noFault {s : State} (noFault : s.fault = 0#2) (act : State → State) :
    unlessFaulted s act = .next (act (s.note .done)) := if_pos noFault

theorem unlessFaulted_of_fault {s : State} (faulted : s.fault ≠ 0#2) (act : State → State) :
    unlessFaulted s act = .next s.notEnabled := if_neg faulted

/-- The condition of DONE_FIRE (R101). -/
abbrev DoneFireReady (s : State) : Prop :=
  s.fault = 0#2 ∧ s.abortArmed = true ∧ s.donePin = true ∧ s.cancel = false

theorem doneFire_of_ready {s : State} (ready : DoneFireReady s) : doneFire s = { s with cancel := true, report := .done } :=
  if_pos ready

theorem doneFire_of_not_ready {s : State} (blocked : ¬ DoneFireReady s) : doneFire s = { s with report := .notEnabled } :=
  if_neg blocked

/-! ### PROD_STEP, stage by stage -/

section
variable {s : State} {bytes : List Byte} {idx : Nat} {h : Handle}

theorem prodStep_idle (idle : s.prod = .idle) : prodStep s = s.notEnabled := by
  simp [prodStep, idle]

theorem prodStep_write (noFault : s.fault = 0#2) (live : s.cancel = false) {stage : WriteStage}
    (prod : s.prod = .write bytes idx stage h) : prodStep s = writeStage s bytes idx stage h := by
  simp [prodStep, noFault, live, prod]

theorem prodStep_ends (noFault : s.fault = 0#2) (live : s.cancel = false) {stage : EndStage}
    (prod : s.prod = .ends stage h) : prodStep s = endStage s stage h := by
  simp [prodStep, noFault, live, prod]

theorem prodStep_write_of_cancel (noFault : s.fault = 0#2) (cancelled : s.cancel = true) {stage : WriteStage}
    (prod : s.prod = .write bytes idx stage h) : prodStep s = s.complete idx true := by
  simp [prodStep, noFault, cancelled, prod]

theorem prodStep_ends_of_cancel (noFault : s.fault = 0#2) (cancelled : s.cancel = true) {stage : EndStage}
    (prod : s.prod = .ends stage h) : prodStep s = s.complete 0 true := by
  simp [prodStep, noFault, cancelled, prod]

/-- The push of a marker as a whole next state (R61, R91, R93, R97). -/
theorem pushMarker_eq_of_room (room : s.tq.length < s.params.tqDepth) (g : Tag) (next : Handle → Machine.Prod) :
    pushMarker s g next =
      { s with fired := s.alloc.fired, nextHandle := s.nextHandle + 1#8, tq := s.tq ++ [tokMarker g s.nextHandle],
               prod := next s.nextHandle, report := .done } := by
  rw [pushMarker_of_room room]
  simp only [State.alloc, State.pushTq, State.setProd, State.note]

theorem prodStep_write_pre (noFault : s.fault = 0#2) (live : s.cancel = false) (room : s.tq.length < s.params.tqDepth)
    (prod : s.prod = .write bytes idx .pre h) :
    prodStep s =
      { s with fired := s.alloc.fired, nextHandle := s.nextHandle + 1#8, tq := s.tq ++ [tokMarker 1#3 s.nextHandle],
               prod := .write bytes idx .data h, report := .done } :=
  (prodStep_write noFault live prod).trans (pushMarker_eq_of_room room 1#3 fun _ => .write bytes idx .data h)

theorem prodStep_write_eom (noFault : s.fault = 0#2) (live : s.cancel = false) (room : s.tq.length < s.params.tqDepth)
    (prod : s.prod = .write bytes idx .eom h) :
    prodStep s =
      { s with fired := s.alloc.fired, nextHandle := s.nextHandle + 1#8, tq := s.tq ++ [tokMarker 2#3 s.nextHandle],
               prod := .write bytes idx .wait s.nextHandle, report := .done } :=
  (prodStep_write noFault live prod).trans (pushMarker_eq_of_room room 2#3 (.write bytes idx .wait))

theorem prodStep_ends_eos (noFault : s.fault = 0#2) (live : s.cancel = false) (room : s.tq.length < s.params.tqDepth)
    (prod : s.prod = .ends .eos h) :
    prodStep s =
      { s with fired := s.alloc.fired, nextHandle := s.nextHandle + 1#8, tq := s.tq ++ [tokMarker 3#3 s.nextHandle],
               prod := .ends .wait s.nextHandle, report := .done } :=
  (prodStep_ends noFault live prod).trans (pushMarker_eq_of_room room 3#3 (.ends .wait))

theorem pushMarker_of_full (full : s.params.tqDepth ≤ s.tq.length) (g : Tag) (next : Handle → Machine.Prod) :
    pushMarker s g next = s.notEnabled := by
  obtain ⟨room, -⟩ | ⟨-, stuck⟩ := pushMarker_cases s g next
  · have := (one_le_tqFree_iff s).mp room
    omega
  · exact stuck

theorem writeData_of_end (spent : bytes[idx]? = none) :
    writeData s bytes idx h = { s with prod := .write bytes idx .eom h, report := .done } := by
  simp only [writeData, spent]
  rfl

theorem writeData_of_skip {b : Byte} (byte : bytes[idx]? = some b) (skipped : bytePattern s b = none) :
    writeData s bytes idx h = { s with prod := .write bytes (idx + 1) .data h, report := .done } := by
  simp only [writeData, byte, skipped]
  rfl

theorem writeData_of_room {b : Byte} {p : BitVec 16} (byte : bytes[idx]? = some b) (pattern : bytePattern s b = some p)
    (room : s.tq.length < s.params.tqDepth) :
    writeData s bytes idx h =
      { s with tq := s.tq ++ [tokDataWord p], prod := .write bytes (idx + 1) .data h, report := .done } := by
  simp only [writeData, byte, pattern, if_pos ((one_le_tqFree_iff s).mpr room)]
  rfl

theorem writeData_of_full {b : Byte} {p : BitVec 16} (byte : bytes[idx]? = some b) (pattern : bytePattern s b = some p)
    (full : s.params.tqDepth ≤ s.tq.length) : writeData s bytes idx h = s.notEnabled := by
  simp only [writeData, byte, pattern, if_neg (mt (one_le_tqFree_iff s).mp full.not_gt)]

end

/-! ### TABLE -/

/-- A listed code reads as something (R14). -/
theorem tableEntry_eq_none_iff (table : List (BitVec 7 × BitVec 16)) (c : BitVec 7) :
    tableEntry table c = none ↔ ∀ p, (c, p) ∉ table := by
  induction table with
  | nil => simp [tableEntry]
  | cons entry rest ih =>
    obtain ⟨k, q⟩ := entry
    by_cases here : k = c
    · simp only [tableEntry, here, if_true, reduceCtorEq, false_iff, not_forall, not_not]
      exact ⟨q, List.mem_cons_self⟩
    · simp [tableEntry, here, ih, Ne.symm here]

/-- Rising codes: the first code is below every later one. -/
theorem codesRising_cons {entry : BitVec 7 × BitVec 16} {rest : List (BitVec 7 × BitVec 16)}
    (rising : Config.codesRising (entry :: rest) = true) :
    (∀ e ∈ rest, entry.1.toNat < e.1.toNat) ∧ Config.codesRising rest = true := by
  induction rest generalizing entry with
  | nil => exact ⟨by simp, rfl⟩
  | cons next rest ih =>
    simp only [Config.codesRising, Bool.and_eq_true, decide_eq_true_eq] at rising
    obtain ⟨below, rising'⟩ := rising
    refine ⟨fun e mem => ?_, rising'⟩
    obtain rfl | later := List.mem_cons.mp mem
    · exact below
    · exact below.trans ((ih rising').1 e later)

/-- With rising codes no entry hides another: a code reads as the pattern listed with it. -/
theorem tableEntry_eq_some_iff {table : List (BitVec 7 × BitVec 16)} (rising : Config.codesRising table = true)
    (c : BitVec 7) (p : BitVec 16) : tableEntry table c = some p ↔ (c, p) ∈ table := by
  induction table with
  | nil => simp [tableEntry]
  | cons entry rest ih =>
    obtain ⟨below, rising'⟩ := codesRising_cons rising
    obtain ⟨k, q⟩ := entry
    by_cases here : k = c
    · subst here
      have notLater : (k, p) ∉ rest := fun later => (below _ later).ne rfl
      simp [tableEntry, notLater, eq_comm]
    · simp [tableEntry, here, ih rising', Ne.symm here]

theorem bytePattern_of_high {s : State} {b : Byte} (high : b.getLsbD 7 = true) : bytePattern s b = none := by
  simp [bytePattern, byteCode, high]

theorem bytePattern_of_low {s : State} {b : Byte} (low : b.getLsbD 7 = false) :
    bytePattern s b = tableRead s (b.extractLsb' 0 7) := by
  simp only [bytePattern, byteCode, low, Bool.false_eq_true, if_false, Option.bind_some]

/-! ### Handles -/

theorem clearsOnly_alloc (s : State) : clearsOnly s.fired s.alloc.fired s.nextHandle := isFired_alloc s

/-! ### The stuck producer -/

theorem complete_enabled (s : State) (n : Nat) (e : Bool) : (s.complete n e).report ≠ .notEnabled := nofun

/-- A marker stage is stuck exactly on a full `TQ`. -/
theorem pushMarker_stuck_iff (s : State) (g : Tag) (next : Handle → Machine.Prod) :
    (pushMarker s g next).report = .notEnabled ↔ s.params.tqDepth ≤ s.tq.length := by
  rcases Nat.lt_or_ge s.tq.length s.params.tqDepth with room | full
  · simp [pushMarker_of_room room, room]
  · simp [pushMarker_of_full full, full]

/-- The data stage is stuck exactly when it has a token to push and `TQ` is full. -/
theorem writeData_stuck_iff (s : State) (bytes : List Byte) (idx : Nat) (h : Handle) :
    (writeData s bytes idx h).report = .notEnabled ↔
      (bytes[idx]?.bind (bytePattern s)).isSome = true ∧ s.params.tqDepth ≤ s.tq.length := by
  rcases byte : bytes[idx]? with _ | b
  · simp [writeData_of_end byte]
  · rcases pattern : bytePattern s b with _ | p
    · simp [writeData_of_skip byte pattern, pattern]
    · rcases Nat.lt_or_ge s.tq.length s.params.tqDepth with room | full
      · simp [writeData_of_room byte pattern room, room]
      · simp [writeData_of_full byte pattern full, full, pattern]

/-- A waiting stage is stuck exactly while its handle has not fired. -/
theorem waiting_stuck_iff (s : State) (h : Handle) (n : Nat) :
    (if s.isFired h then s.complete n false else s.notEnabled).report = .notEnabled ↔ s.fired.getLsbD h.toNat = false := by
  cases fired : s.isFired h <;> simpa [State.isFired] using fired

/-- Without fault and uncancelled: no room for the token of the stage, or its handle has not fired. -/
theorem prodStep_stuck_iff_of_live {s : State} (noFault : s.fault = 0#2) (live : s.cancel = false) (busy : s.prod ≠ .idle) :
    (prodStep s).report = .notEnabled ↔ (s.wantsRoom = true ∧ s.params.tqDepth ≤ s.tq.length) ∨
      ∃ h, waitsOn s.prod = some h ∧ s.fired.getLsbD h.toNat = false := by
  rcases prod : s.prod with _ | ⟨bytes, idx, stage, h⟩ | ⟨stage, h⟩
  · exact absurd prod busy
  · rw [prodStep_write noFault live prod]
    cases stage with
    | pre => simp [writeStage, pushMarker_stuck_iff, State.wantsRoom, waitsOn, prod]
    | data => simp [writeStage, writeData_stuck_iff, State.wantsRoom, waitsOn, prod]
    | eom => simp [writeStage, pushMarker_stuck_iff, State.wantsRoom, waitsOn, prod]
    | wait => simp only [writeStage, waiting_stuck_iff, State.wantsRoom, waitsOn, prod]; simp
  · rw [prodStep_ends noFault live prod]
    cases stage with
    | eos => simp [endStage, pushMarker_stuck_iff, State.wantsRoom, waitsOn, prod]
    | wait => simp only [endStage, waiting_stuck_iff, State.wantsRoom, waitsOn, prod]; simp

/-- Cancellation leaves no stage stuck (R95). -/
theorem prodStep_enabled_of_cancel {s : State} (noFault : s.fault = 0#2) (cancelled : s.cancel = true)
    (busy : s.prod ≠ .idle) : (prodStep s).report ≠ .notEnabled := by
  rcases prod : s.prod with _ | ⟨bytes, idx, stage, h⟩ | ⟨stage, h⟩
  · exact absurd prod busy
  · rw [prodStep_write_of_cancel noFault cancelled prod]; exact complete_enabled s idx true
  · rw [prodStep_ends_of_cancel noFault cancelled prod]; exact complete_enabled s 0 true

/-- A PROD_STEP that reports `notEnabled` has changed nothing. -/
theorem prodStep_eq_of_stuck {s : State} (stuck : (prodStep s).report = .notEnabled) : prodStep s = s.notEnabled := by
  obtain e | ⟨_, _, e⟩ | ⟨_, e⟩ | ⟨-, _, _, e⟩ | ⟨-, _, _, e⟩ := prodStep_cases s
  · exact e
  all_goals simp [e] at stuck

/-! ### The tokens of one WRITE -/

theorem prodSteps_add (m n : Nat) (s : State) : prodSteps (m + n) s = prodSteps n (prodSteps m s) := by
  induction m generalizing s with
  | zero => rw [Nat.zero_add]; rfl
  | succ m ih => rw [Nat.succ_add]; exact ih (prodStep s)

theorem dataTokens_cons_of_none {s : State} {b : Byte} (skipped : bytePattern s b = none) (rest : List Byte) :
    dataTokens s (b :: rest) = dataTokens s rest := by
  simp [dataTokens, skipped]

theorem dataTokens_cons_of_some {s : State} {b : Byte} {p : BitVec 16} (pattern : bytePattern s b = some p)
    (rest : List Byte) : dataTokens s (b :: rest) = tokDataWord p :: dataTokens s rest := by
  simp [dataTokens, pattern]

/-- Stage `W_DATA` over the bytes still to come (R92): one step each, their tokens in order. -/
theorem prodSteps_data {bytes : List Byte} {h : Handle} (rest : List Byte) {s : State} {idx : Nat}
    (noFault : s.fault = 0#2) (live : s.cancel = false) (prod : s.prod = .write bytes idx .data h)
    (shown : s.report = .done) (ahead : bytes.drop idx = rest)
    (room : s.tq.length + (dataTokens s rest).length ≤ s.params.tqDepth) :
    prodSteps rest.length s =
      { s with tq := s.tq ++ dataTokens s rest, prod := .write bytes (idx + rest.length) .data h } := by
  induction rest generalizing s idx with
  | nil =>
    have noTokens : dataTokens s [] = [] := rfl
    rw [noTokens, List.append_nil, List.length_nil, Nat.add_zero, ← prod]
    rfl
  | cons b rest ih =>
    have byte : bytes[idx]? = some b := by
      rw [← Nat.add_zero idx, ← List.getElem?_drop, ahead]
      rfl
    have later : bytes.drop (idx + 1) = rest := by
      rw [← List.drop_drop, ahead]
      rfl
    have next : idx + (rest.length + 1) = idx + 1 + rest.length := by omega
    have step1 : prodStep s = writeData s bytes idx h := prodStep_write noFault live prod
    rw [List.length_cons, next]
    change prodSteps rest.length (prodStep s) = _
    rcases pattern : bytePattern s b with _ | p
    · rw [dataTokens_cons_of_none pattern] at room ⊢
      rw [step1, writeData_of_skip byte pattern, ← shown]
      exact ih (s := { s with prod := .write bytes (idx + 1) .data h }) noFault live rfl shown later room
    · rw [dataTokens_cons_of_some pattern, List.length_cons] at room
      rw [dataTokens_cons_of_some pattern, step1, writeData_of_room byte pattern (by omega), ← shown,
        List.append_cons s.tq _ (dataTokens s rest)]
      refine ih (s := { s with tq := s.tq ++ [tokDataWord p], prod := .write bytes (idx + 1) .data h })
        noFault live rfl shown later ?_
      rw [List.length_append, List.length_singleton]
      exact (by omega : s.tq.length + 1 + (dataTokens s rest).length ≤ s.params.tqDepth)

/-- The body of a WRITE (R92): its bytes' tokens, then the step that finds the list at its end. -/
theorem prodSteps_body {s : State} {bytes : List Byte} {h : Handle} (noFault : s.fault = 0#2) (live : s.cancel = false)
    (prod : s.prod = .write bytes 0 .data h) (shown : s.report = .done)
    (room : s.tq.length + (dataTokens s bytes).length ≤ s.params.tqDepth) :
    prodSteps (bytes.length + 1) s =
      { s with tq := s.tq ++ dataTokens s bytes, prod := .write bytes bytes.length .eom h } := by
  rw [prodSteps_add, prodSteps_data bytes noFault live prod shown rfl room, Nat.zero_add]
  change prodStep _ = _
  rw [prodStep_write (bytes := bytes) (idx := bytes.length) (h := h) (stage := .data), writeStage,
    writeData_of_end (List.getElem?_eq_none le_rfl), shown]
  case noFault => exact noFault
  case live => exact live
  case prod => rfl

/-! ### The statements -/

/-- Settles O11: both are start steps. -/
theorem writeAndEndSessionStart : Obligations.WriteAndEndSessionStart :=
  fun _ noFault idle live => ⟨fun _ => starting_of_ready noFault idle live _, starting_of_ready noFault idle live _⟩

/-- Settles O12: both are start steps. -/
theorem startTurnedAway : Obligations.StartTurnedAway := by
  intro s i start
  obtain ⟨op, starts⟩ := exec_of_start start
  refine ⟨fun noFault idle cancelled => ?_, fun blocked => ?_⟩ <;> rw [starts]
  · rw [starting_of_cancel noFault idle cancelled, complete_of_idle idle]
  · exact starting_of_not_ready blocked op

/-- Settles O13: both are enabled while there is no fault. -/
theorem closeSessionAndAbortWhenDone : Obligations.CloseSessionAndAbortWhenDone :=
  fun s => ⟨fun noFault => ⟨(exec_closeSession s).trans (unlessFaulted_of_noFault noFault setCancel),
      (exec_abortWhenDone s).trans (unlessFaulted_of_noFault noFault setArmed)⟩,
    fun faulted => ⟨(exec_closeSession s).trans (unlessFaulted_of_fault faulted setCancel),
      (exec_abortWhenDone s).trans (unlessFaulted_of_fault faulted setArmed)⟩⟩

/-- Settles O14: the condition of DONE_FIRE, met or not; ABORTWHENDONE with the pin at 1 meets it. -/
theorem doneFireSamplesTheLevel : Obligations.DoneFireSamplesTheLevel := by
  refine fun s => ⟨doneFire_of_ready, doneFire_of_not_ready, ?low, fun noFault high live => ?armed⟩
  case low => exact doneFire_of_not_ready (s := { s with donePin := false }) fun ready => nomatch ready.2.2.1
  case armed =>
    exact ⟨_, unlessFaulted_of_noFault noFault setArmed, doneFire_of_ready ⟨noFault, rfl, high, live⟩⟩

/-- Settles O16: with room each marker stage is its allocation and push. -/
theorem producerPushesMarkers : Obligations.ProducerPushesMarkers :=
  fun s noFault live room => ⟨s.alloc.fired, clearsOnly_alloc s, fun _ _ _ => prodStep_write_pre noFault live room,
    fun _ _ _ => prodStep_write_eom noFault live room, fun _ => prodStep_ends_eos noFault live room⟩

/-- Settles O17: the lookup by the order of the codes, the stage by what the byte at the index stands for. -/
theorem producerTranslatesOneByte : Obligations.ProducerTranslatesOneByte := by
  refine ⟨fun s c p rising => tableEntry_eq_some_iff rising c p, fun s c => tableEntry_eq_none_iff _ c,
    fun s bytes idx h noFault live prod => ?_⟩
  have step1 : prodStep s = writeData s bytes idx h := prodStep_write noFault live prod
  refine ⟨fun spent => ?_, fun b byte skipped => ?_, fun b p byte low entry room => ?_⟩ <;> rw [step1]
  · exact writeData_of_end (List.getElem?_eq_none spent)
  · refine writeData_of_skip byte ?_
    cases bit : b.getLsbD 7
    · exact (bytePattern_of_low bit).trans (skipped.resolve_left (Bool.not_eq_true _ ▸ bit))
    · exact bytePattern_of_high bit
  · exact writeData_of_room byte ((bytePattern_of_low low).trans entry) room

/-- Settles O18: the waiting stages with their handle fired. -/
theorem acknowledgedOperationCompletes : Obligations.AcknowledgedOperationCompletes := by
  refine fun s h noFault live fired => ⟨fun bytes idx prod => ?_, fun prod => ?_⟩
  · exact (prodStep_write noFault live prod).trans (if_pos fired)
  · exact (prodStep_ends noFault live prod).trans (if_pos fired)

/-- Settles O19: `CANCEL` is looked at before the stage. -/
theorem cancelledOperationAborts : Obligations.CancelledOperationAborts :=
  fun _ noFault cancelled => ⟨fun _ _ _ _ => prodStep_write_of_cancel noFault cancelled,
    fun _ _ => prodStep_ends_of_cancel noFault cancelled⟩

/-- Settles O20: a fault, a cancellation, or the stage's own reasons. -/
theorem producerStuckForThreeReasons : Obligations.ProducerStuckForThreeReasons := by
  refine fun s busy => ⟨?_, prodStep_eq_of_stuck⟩
  by_cases noFault : s.fault = 0#2
  · cases cancel : s.cancel
    · simp [prodStep_stuck_iff_of_live noFault cancel busy, noFault]
    · simp [prodStep_enabled_of_cancel noFault cancel busy, noFault]
  · simp [prodStep_of_fault noFault, noFault]

/-- Settles O21: the preamble marker, one step for each byte, the end of the list, the end-of-message marker. -/
theorem writeEnqueuesOneFramedMessage : Obligations.WriteEnqueuesOneFramedMessage := by
  intro s bytes h noFault live prod room
  have steps : bytes.length + 3 = 1 + (bytes.length + 1 + 1) := by omega
  have roomForData : s.tq.length + 1 + (dataTokens s bytes).length ≤ s.params.tqDepth := by omega
  have roomForMarker : s.tq.length + 1 + (dataTokens s bytes).length < s.params.tqDepth := by omega
  have tokens : s.tq ++ [1#3 ++ (0#8 ++ s.nextHandle)] ++ dataTokens s bytes ++
      [2#3 ++ (0#8 ++ (s.nextHandle + 1#8))] = s.tq ++ (1#3 ++ (0#8 ++ s.nextHandle)) ::
        (dataTokens s bytes ++ [2#3 ++ (0#8 ++ (s.nextHandle + 1#8))]) := by
    simp only [List.append_assoc, List.cons_append, List.nil_append]
  have handle : s.nextHandle + 1#8 + 1#8 = s.nextHandle + 2#8 := BitVec.add_assoc _ _ _
  refine ⟨s.alloc.fired, s.alloc.alloc.fired, clearsOnly_alloc s, clearsOnly_alloc s.alloc, ?_⟩
  rw [steps, prodSteps_add, prodSteps_add]
  change prodStep (prodSteps (bytes.length + 1) (prodStep s)) = _
  rw [prodStep_write_pre noFault live (by omega) prod, prodSteps_body (bytes := bytes) (h := h),
    prodStep_write_eom (bytes := bytes) (idx := bytes.length) (h := h)]
  case noFault | noFault => exact noFault
  case live | live => exact live
  case prod | prod => rfl
  case shown => rfl
  case room => rw [List.length_append, List.length_append]; exact roomForMarker
  case room => rw [List.length_append]; exact roomForData
  rw [← handle, ← tokens]
  rfl

end Sys2Proof
end

section
/-! PROOFS. The bit packer: the bit stream a pattern becomes (R111, R112), run-shortening (R53, R121), the flush before a
marker (R113 to R118), and what packing reads (R119). -/

namespace Sys2Proof

open Sys2Proof.Machine

/-! ### The condition of PACK_STEP -/

theorem packReady_of_room {s : State} (noFault : s.fault = 0#2) (live : s.cancel = false)
    (room : s.pq.length + 3 ≤ s.params.pqDepth) : s.packReady = true := by
  refine (packReady_iff s).mpr ⟨noFault, live, ?_⟩
  unfold State.pqFree
  omega

theorem packReady_of_blocked {s : State}
    (blocked : s.fault ≠ 0#2 ∨ s.cancel = true ∨ s.params.pqDepth < s.pq.length + 3) : s.packReady = false := by
  refine Bool.eq_false_iff.mpr fun ready => ?_
  obtain ⟨noFault, live, room⟩ := (packReady_iff s).mp ready
  obtain faulted | cancelled | short := blocked
  · exact faulted noFault
  · simp [live] at cancelled
  · unfold State.pqFree at room
    omega

theorem packing_of_ready {s : State} (ready : s.packReady = true) (act : State → State) :
    packing s act = .next (act (s.popTq.note .done)) := if_pos ready

/-! ### The accumulator as a bit stream -/

theorem getLsbD_accAfter_zero (b : Bool) (acc : Byte) : (accAfter b acc).getLsbD 0 = b := by
  cases b <;> simp [accAfter]

theorem getLsbD_accAfter_succ (b : Bool) (acc : Byte) {k : Nat} (within : k + 1 < 8) :
    (accAfter b acc).getLsbD (k + 1) = acc.getLsbD k := by
  have inByte : k < 8 := by omega
  cases b <;> simp [accAfter, within, BitVec.getLsbD_eq_getElem inByte]

/-- The bit that enters at bit 0 comes last in the stream, behind the bits held before. -/
theorem bitsDown_accAfter (b : Bool) (acc : Byte) {k : Nat} (within : k < 8) :
    bitsDown (k + 1) (accAfter b acc) = bitsDown k acc ++ [b] := by
  induction k with
  | zero => exact congrArg (· :: []) (getLsbD_accAfter_zero b acc)
  | succ k ih =>
    rw [bitsDown, ih (by omega), getLsbD_accAfter_succ b acc within]
    rfl

theorem accAfter_lt (b : Bool) {acc : Byte} {fill : Nat} (held : acc.toNat < 2 ^ fill) :
    (accAfter b acc).toNat < 2 ^ (fill + 1) := by
  have bit : ((BitVec.ofBool b).zeroExtend 8).toNat < 2 ^ (fill + 1) := by
    have : 2 ≤ 2 ^ (fill + 1) := by rw [Nat.pow_succ]; have := Nat.one_le_two_pow (n := fill); omega
    cases b <;> simp
  rw [accAfter, BitVec.toNat_or]
  refine Nat.or_lt_two_pow ?_ bit
  rw [BitVec.toNat_shiftLeft, Nat.shiftLeft_eq, Nat.pow_succ]
  exact (Nat.mod_le _ _).trans_lt (by omega)

/-! ### Run-shortening -/

theorem length_bitsDown {m : Nat} (n : Nat) (w : BitVec m) : (bitsDown n w).length = n := by
  induction n with
  | zero => rfl
  | succ n ih => simp [bitsDown, ih]

theorem length_cutBits_le (lz : Bool) (l : List Bool) : (cutBits lz l).length ≤ l.length := by
  induction l generalizing lz with
  | nil => exact le_rfl
  | cons b l ih =>
    rw [cutBits]
    split
    · simp
    · exact Nat.succ_le_succ (ih (!b))

theorem cutBits_of_stop {b lz : Bool} (stop : stopAfter b lz = true) (l : List Bool) : cutBits lz (b :: l) = [b] :=
  if_pos stop

theorem cutBits_of_go {b lz : Bool} (go : stopAfter b lz = false) (l : List Bool) :
    cutBits lz (b :: l) = b :: cutBits (!b) l := by
  have notStop : (!b && lz) = false := go
  simp [cutBits, notStop]

/-- A sparse-zero part is not cut, and the two zeros behind it end the pattern (R53). -/
theorem cutBits_sparse {l : List Bool} (rest : List Bool) (lz : Bool) (sparse : sparseZero l = true)
    (first : l.head? = some true ∨ lz = false) :
    cutBits lz (l ++ false :: false :: rest) = l ++ [false, false] := by
  induction l generalizing lz with
  | nil => simp [sparseZero] at sparse
  | cons a l ih =>
    have go : stopAfter a lz = false := by
      obtain one | nonzero := first
      · simp [stopAfter, Option.some.inj one]
      · simp [stopAfter, nonzero]
    rw [List.cons_append, cutBits_of_go go]
    cases l with
    | nil =>
      have one : a = true := sparse
      subst one
      rfl
    | cons b l =>
      obtain ⟨either, sparse'⟩ := Bool.and_eq_true_iff.mp sparse
      have next : (b :: l).head? = some true ∨ (!a) = false := by
        cases a
        · exact .inl (congrArg some either)
        · exact .inr rfl
      rw [ih (!a) sparse' next]
      rfl

theorem lastZeroAfter_append (lz : Bool) (l m : List Bool) :
    lastZeroAfter lz (l ++ m) = lastZeroAfter (lastZeroAfter lz l) m := by
  induction l generalizing lz with
  | nil => rfl
  | cons b l ih => exact ih (!b)

/-! ### The loop of PACK_DATA -/

/-- `s'` is `s` after these bits have entered the packer: the bits held before and the bits are the units pushed and the
bits still held, and the packer is in order (R47 a). -/
def EmitsBits (s : State) (bits : List Bool) (s' : State) : Prop :=
  ∃ (us : List Byte) (acc : Byte) (fill : Nat),
    s' = { s with pq := s.pq ++ us.map (puWord 0#3), acc := acc, fill := fill, lastZero := lastZeroAfter s.lastZero bits } ∧
    fill ≤ 7 ∧ acc.toNat < 2 ^ fill ∧ bitsDown s.fill s.acc ++ bits = us.flatMap (bitsDown 8) ++ bitsDown fill acc

theorem EmitsBits.refl {s : State} (ok : s.PackerOk) : EmitsBits s [] s :=
  ⟨[], s.acc, s.fill, by simp [lastZeroAfter], ok.1, ok.2, by simp⟩

theorem EmitsBits.packerOk {s s' : State} {bits : List Bool} (emits : EmitsBits s bits s') : s'.PackerOk := by
  obtain ⟨_, _, _, rfl, fill, acc, -⟩ := emits
  exact ⟨fill, acc⟩

theorem EmitsBits.lastZero {s s' : State} {bits : List Bool} (emits : EmitsBits s bits s') :
    s'.lastZero = lastZeroAfter s.lastZero bits := by
  obtain ⟨_, _, _, rfl, -⟩ := emits
  rfl

theorem EmitsBits.trans {s s1 s2 : State} {bits1 bits2 : List Bool} (first : EmitsBits s bits1 s1)
    (second : EmitsBits s1 bits2 s2) : EmitsBits s (bits1 ++ bits2) s2 := by
  obtain ⟨us1, acc1, fill1, rfl, -, -, stream1⟩ := first
  obtain ⟨us2, acc2, fill2, rfl, fillOk, accOk, stream2⟩ := second
  refine ⟨us1 ++ us2, acc2, fill2, ?_, fillOk, accOk, ?_⟩
  · simp [lastZeroAfter_append]
  · rw [← List.append_assoc, stream1, List.append_assoc]
    simp only [List.flatMap_append, List.append_assoc]
    exact congrArg _ stream2

theorem shiftIn_emits (b : Bool) {s : State} (ok : s.PackerOk) : EmitsBits s [b] (shiftIn b s) := by
  obtain ⟨fill, acc⟩ := ok
  have stream := bitsDown_accAfter b s.acc (k := s.fill) (by omega)
  by_cases full : s.fill + 1 = 8
  · rw [full] at stream
    exact ⟨[accAfter b s.acc], 0#8, 0, shiftIn_full b s full, by omega, by simp, by
      rw [List.flatMap_singleton, stream]; exact (List.append_nil _).symm⟩
  · exact ⟨[], accAfter b s.acc, s.fill + 1, by simp [shiftIn_room b s full, lastZeroAfter], by omega, accAfter_lt b acc,
      by simp [stream]⟩

/-- The loop emits the pattern's bits cut by run-shortening (R111, R112). -/
theorem packBits_emits (p : BitVec 16) (n : Nat) {s : State} (ok : s.PackerOk) :
    EmitsBits s (cutBits s.lastZero (bitsDown n p)) (packBits p n s) := by
  induction n generalizing s with
  | zero => exact .refl ok
  | succ n ih =>
    have shifted := shiftIn_emits (p.getLsbD n) ok
    rw [packBits, bitsDown]
    cases stop : stopAfter (p.getLsbD n) s.lastZero
    · rw [cutBits_of_go stop, if_neg (by simp)]
      have later := ih shifted.packerOk
      rw [shifted.lastZero] at later
      exact shifted.trans later
    · rw [cutBits_of_stop stop, if_pos rfl]
      exact shifted

theorem length_of_stream {held bits rest : List Bool} {us : List Byte}
    (stream : held ++ bits = us.flatMap (bitsDown 8) ++ rest) :
    held.length + bits.length = us.length * 8 + rest.length := by
  simpa [length_bitsDown] using congrArg List.length stream

/-- PACK_DATA as a whole next state: the units of the cut stream are pushed; sixteen bits and the seven held fill two
units at most. -/
theorem packData_of_ok {s : State} (ok : s.PackerOk) (p : BitVec 16) :
    ∃ (us : List Byte) (acc : Byte) (fill : Nat),
      packData p s =
        { s with pq := s.pq ++ us.map (puWord 0#3), acc := acc, fill := fill,
                 lastZero := lastZeroAfter s.lastZero (cutBits s.lastZero (bitsDown 16 p)) } ∧
      us.length ≤ 2 ∧ fill ≤ 7 ∧ acc.toNat < 2 ^ fill ∧
      bitsDown s.fill s.acc ++ cutBits s.lastZero (bitsDown 16 p) = us.flatMap (bitsDown 8) ++ bitsDown fill acc := by
  obtain ⟨us, acc, fill, packed, fillOk, accOk, stream⟩ := packBits_emits p 16 ok
  have cut := length_cutBits_le s.lastZero (bitsDown 16 p)
  have total := length_of_stream stream
  obtain ⟨fill7, -⟩ := ok
  simp only [length_bitsDown] at cut total
  exact ⟨us, acc, fill, packed, by omega, fillOk, accOk, stream⟩

/-- TOK.DATA: the token leaves `TQ` and its pattern is packed. -/
theorem exec_tokData_of_ready {s : State} (ready : s.packReady = true) (ok : s.PackerOk) (p : BitVec 16) :
    ∃ (us : List Byte) (acc : Byte) (fill : Nat),
      exec (.tokData p) s =
        .next { s with tq := s.tq.tail, pq := s.pq ++ us.map (fun u => 0#3 ++ u), acc := acc, fill := fill,
                       lastZero := lastZeroAfter s.lastZero (cutBits s.lastZero (bitsDown 16 p)), report := .done } ∧
      us.length ≤ 2 ∧ fill ≤ 7 ∧ acc.toNat < 2 ^ fill ∧
      bitsDown s.fill s.acc ++ cutBits s.lastZero (bitsDown 16 p) = us.flatMap (bitsDown 8) ++ bitsDown fill acc := by
  obtain ⟨us, acc, fill, packed, rest⟩ := packData_of_ok (s := s.popTq.note .done) ok p
  exact ⟨us, acc, fill, (packing_of_ready ready (packData p)).trans (congrArg _ packed), rest⟩

/-! ### The flush before a marker -/

/-- GAP_AFTER on the bits (R116). -/
theorem gapAfter_iff (extraGap : Bool) (u : Byte) :
    gapAfter extraGap u = true ↔ extraGap = true ∧ u.getLsbD 0 = false ∧ u.getLsbD 1 = false ∧ u ≠ 0#8 := by
  have lowBits : u.extractLsb' 0 2 = 0#2 ↔ u.getLsbD 0 = false ∧ u.getLsbD 1 = false := by
    revert u
    decide
  simp [gapAfter, lowBits, and_assoc]

/-- What a non-data token pushes on an empty accumulator: its own word. -/
theorem packMarker_of_empty {s : State} (empty : s.fill = 0) (g : Tag) (d : Byte) :
    packMarker g d s = { s with pq := s.pq ++ [puWord g d] } := by
  rw [packMarker, flush, if_pos empty]
  rfl

/-- What it pushes on bits held: the padded unit, the gap unit where R116 asks for one, its own word. -/
theorem packMarker_of_held {s : State} (held : s.fill ≠ 0) (g : Tag) (d : Byte) :
    packMarker g d s =
      { s with
        pq := s.pq ++ (puWord 0#3 (paddedUnit s) ::
          ((if gapAfter s.params.extraGap (paddedUnit s) = true then [0#11] else []) ++ [puWord g d]))
        acc := 0#8
        fill := 0 } := by
  obtain ⟨empty, -⟩ | ⟨-, gap, e⟩ | ⟨-, gap, e⟩ := flush_cases s
  · exact absurd empty held
  · simp [packMarker, e, gap, State.pushPq]
  · simp [packMarker, e, gap, State.pushPq]
    rfl

/-- Every non-data row is the pass-through of its tag and low byte (R113, R114, R117, R118). -/
theorem exec_of_marker {i : Instr} {g : Tag} {d : Byte}
    (marker : (i = .tokPre d ∧ g = 1#3) ∨ (i = .tokEom d ∧ g = 2#3) ∨ (i = .tokEos d ∧ g = 3#3) ∨
      (i = .tokRsvd g d ∧ 4 ≤ g.toNat)) (s : State) : exec i s = packing s (packMarker g d) := by
  obtain ⟨rfl, rfl⟩ | ⟨rfl, rfl⟩ | ⟨rfl, rfl⟩ | ⟨rfl, -⟩ := marker <;> rfl

/-! ### What packing reads -/

/-- The two states agree on what the packer reads: its registers and `EXTRA_GAP` (R119). -/
abbrev SamePacker (s1 s2 : State) : Prop :=
  s1.acc = s2.acc ∧ s1.fill = s2.fill ∧ s1.lastZero = s2.lastZero ∧ s1.params.extraGap = s2.params.extraGap

/-- From both states the packer comes to the same registers and pushes the same words, `s1` to `r1` and `s2` to `r2`;
`n` bits have entered, and no more words are pushed than they and the bits held fill. -/
def PacksAlike (n : Nat) (s1 s2 r1 r2 : State) : Prop :=
  ∃ acc fill lz ws, r1 = { s1 with acc := acc, fill := fill, lastZero := lz, pq := s1.pq ++ ws } ∧
    r2 = { s2 with acc := acc, fill := fill, lastZero := lz, pq := s2.pq ++ ws } ∧ fill ≤ 7 ∧
    ws.length * 8 + fill ≤ s1.fill + n

theorem PacksAlike.refl {s1 s2 : State} (same : SamePacker s1 s2) (fillOk : s1.fill ≤ 7) :
    PacksAlike 0 s1 s2 s1 s2 := by
  obtain ⟨acc, fill, lz, -⟩ := same
  exact ⟨s1.acc, s1.fill, s1.lastZero, [], by simp, by simp [acc, fill, lz], fillOk, by simp⟩

theorem PacksAlike.same {n : Nat} {s1 s2 r1 r2 : State} (alike : PacksAlike n s1 s2 r1 r2) (same : SamePacker s1 s2) :
    SamePacker r1 r2 ∧ r1.fill ≤ 7 := by
  obtain ⟨_, _, _, _, rfl, rfl, fillOk, -⟩ := alike
  exact ⟨⟨rfl, rfl, rfl, same.2.2.2⟩, fillOk⟩

theorem PacksAlike.trans {m n : Nat} {s1 s2 r1 r2 q1 q2 : State} (first : PacksAlike m s1 s2 r1 r2)
    (second : PacksAlike n r1 r2 q1 q2) : PacksAlike (m + n) s1 s2 q1 q2 := by
  obtain ⟨_, _, _, ws, rfl, rfl, -, count1⟩ := first
  obtain ⟨acc, fill, lz, vs, rfl, rfl, fillOk, count2⟩ := second
  refine ⟨acc, fill, lz, ws ++ vs, by simp, by simp, fillOk, ?_⟩
  rw [List.length_append]
  simp only at count2
  omega

theorem PacksAlike.mono {m n : Nat} (le : m ≤ n) {s1 s2 r1 r2 : State} (alike : PacksAlike m s1 s2 r1 r2) :
    PacksAlike n s1 s2 r1 r2 := by
  obtain ⟨acc, fill, lz, ws, e1, e2, fillOk, count⟩ := alike
  exact ⟨acc, fill, lz, ws, e1, e2, fillOk, by omega⟩

theorem shiftIn_alike (b : Bool) {s1 s2 : State} (same : SamePacker s1 s2) (fillOk : s1.fill ≤ 7) :
    PacksAlike 1 s1 s2 (shiftIn b s1) (shiftIn b s2) := by
  obtain ⟨acc, fill, -, -⟩ := same
  by_cases full : s1.fill + 1 = 8
  · exact ⟨0#8, 0, !b, [puWord 0#3 (accAfter b s1.acc)], shiftIn_full b s1 full,
      by rw [shiftIn_full b s2 (fill ▸ full), acc], by omega, by simp [full]⟩
  · exact ⟨accAfter b s1.acc, s1.fill + 1, !b, [], by simp [shiftIn_room b s1 full],
      by simp [shiftIn_room b s2 (fill ▸ full), acc, fill], by omega, by simp⟩

theorem packBits_alike (p : BitVec 16) (n : Nat) {s1 s2 : State} (same : SamePacker s1 s2) (fillOk : s1.fill ≤ 7) :
    PacksAlike n s1 s2 (packBits p n s1) (packBits p n s2) := by
  induction n generalizing s1 s2 with
  | zero => exact .refl same fillOk
  | succ n ih =>
    have shifted := shiftIn_alike (p.getLsbD n) same fillOk
    obtain ⟨same', fillOk'⟩ := shifted.same same
    rw [packBits, packBits, ← same.2.2.1]
    split
    · exact shifted.mono (by omega)
    · exact (shifted.trans (ih same' fillOk')).mono (by omega)

/-- A non-data token pushes three words at most (R110). -/
theorem packMarker_alike (g : Tag) (d : Byte) {s1 s2 : State} (same : SamePacker s1 s2) :
    ∃ acc fill lz ws, ws.length ≤ 3 ∧
      packMarker g d s1 = { s1 with acc := acc, fill := fill, lastZero := lz, pq := s1.pq ++ ws } ∧
      packMarker g d s2 = { s2 with acc := acc, fill := fill, lastZero := lz, pq := s2.pq ++ ws } := by
  obtain ⟨acc, fill, lz, gap⟩ := same
  have padded : paddedUnit s1 = paddedUnit s2 := by rw [paddedUnit, paddedUnit, acc, fill]
  by_cases held : s1.fill = 0
  · exact ⟨s1.acc, s1.fill, s1.lastZero, [puWord g d], by simp, packMarker_of_empty held g d,
      by rw [packMarker_of_empty (fill ▸ held), acc, fill, lz]⟩
  · refine ⟨0#8, 0, s1.lastZero, _, ?_, packMarker_of_held held g d,
      by rw [packMarker_of_held (fill ▸ held), lz, padded, gap]⟩
    split <;> simp

/-! ### The statements -/

/-- Settles O22: the loop's bit stream, with its length for the count of units. -/
theorem packDataEmitsCutPattern : Obligations.PackDataEmitsCutPattern :=
  fun _ p noFault live room ok => exec_tokData_of_ready (packReady_of_room noFault live room) ok p

/-- Settles O23: run-shortening cuts a sparse-zero pattern right behind its two separator zeros. -/
theorem sparsePatternKeepsItsBits : Obligations.SparsePatternKeepsItsBits := by
  intro s p l rest noFault live room ok pattern sparse first
  obtain ⟨us, acc, fill, ran, -, -, -, stream⟩ := exec_tokData_of_ready (packReady_of_room noFault live room) ok p
  rw [pattern, cutBits_sparse rest s.lastZero sparse first] at ran stream
  exact ⟨_, us, ran, rfl, lastZeroAfter_append s.lastZero l [false, false], stream⟩

/-- Settles O24: the pass-through with an empty accumulator and with bits held. -/
theorem packMarkerFlushesAndPasses : Obligations.PackMarkerFlushesAndPasses := by
  intro s i g d noFault live room marker
  have ran : exec i s = .next (packMarker g d (s.popTq.note .done)) :=
    (exec_of_marker marker s).trans (packing_of_ready (packReady_of_room noFault live room) _)
  refine ⟨fun empty => ?_, fun held u padded => ?_⟩ <;> rw [ran]
  · rw [packMarker_of_empty (s := s.popTq.note .done) empty]
    rfl
  · rw [packMarker_of_held (s := s.popTq.note .done) held, padded]
    simp only [gapAfter_iff]
    rfl

/-- Settles O25: every token word waits for the one condition of PACK_STEP. -/
theorem packerNotEnabledChangesNothing : Obligations.PackerNotEnabledChangesNothing := by
  intro s w blocked
  obtain ⟨act, -, runs⟩ := exec_decodeTok_packing w
  exact (runs s).trans (notEnabled_of_not_packReady (packReady_of_blocked blocked) act)

/-- Settles O26: a data token by the loop, every other one by its flush. -/
theorem packingReadsPackerStateOnly : Obligations.PackingReadsPackerStateOnly := by
  intro s1 s2 w ready1 ready2 fillOk acc fill lz gap
  have same : SamePacker (s1.popTq.note .done) (s2.popTq.note .done) := ⟨acc, fill, lz, gap⟩
  obtain ⟨-, runs⟩ | ⟨-, runs⟩ := exec_decodeTok_cases w
  · obtain ⟨acc', fill', lz', ws, e1, e2, -, count⟩ := packBits_alike (tokPattern w) 16 same fillOk
    have two : ws.length * 8 + fill' ≤ s1.fill + 16 := count
    exact ⟨acc', fill', lz', ws, by omega,
      ((runs s1).trans (packing_of_ready ready1 _)).trans (congrArg _ e1),
      ((runs s2).trans (packing_of_ready ready2 _)).trans (congrArg _ e2)⟩
  · obtain ⟨acc', fill', lz', ws, three, e1, e2⟩ := packMarker_alike (tokTag w) (tokLow w) same
    exact ⟨acc', fill', lz', ws, three,
      ((runs s1).trans (packing_of_ready ready1 _)).trans (congrArg _ e1),
      ((runs s2).trans (packing_of_ready ready2 _)).trans (congrArg _ e2)⟩

end Sys2Proof
end

section
/-! PROOFS. The segment sequencer: the tick as a whole (R150, R174), the word a polling segment takes, row by row (R133 to
R140), when no word is taken (R141, R143, R144, R197), and how long a segment lasts (R151, R153, R155, R156, R230). -/

namespace Sys2Proof

open Sys2Proof.Machine

/-! ### The tick -/

/-- The segment after a boundary tick is of the same kind, with its counter moved towards its end. -/
inductive TickedSeg : Segment → Segment → Prop
  | off (closed : Bool) : TickedSeg (.off closed) (.off closed)
  | preamble {r r' : Nat} (h : Handle) (e e' : Bool) : r' ≤ r → TickedSeg (.preamble r h e) (.preamble r' h e')
  | transmit (u : Byte) {k k' : Nat} (e e' : Bool) : (k ≤ 8 → k' ≤ 8) →
      TickedSeg (.transmit u k e) (.transmit u k' e')
  | ending {r r' : Nat} (h : Handle) (e e' : Bool) : r' ≤ r → TickedSeg (.ending r h e) (.ending r' h e')

theorem segTick_ticked (s : State) : TickedSeg s.seg (segTick s).seg := by
  rcases seg : s.seg with c | ⟨r, h, e⟩ | ⟨u, k, e⟩ | ⟨r, h, e⟩ <;> simp only [segTick, seg]
  · exact .off c
  · split <;> exact .preamble h _ _ (Nat.sub_le r 1)
  · refine .transmit u _ _ fun within => ?_
    split <;> omega
  · split
    · rw [seg]
      exact .ending h _ _ le_rfl
    · split <;> exact .ending h _ _ (Nat.sub_le r 1)

/-- A boundary tick reads of the segment's state the segment and `FIRED` only, and writes those only. -/
theorem segTick_eq_of_same {s x : State} (seg : x.seg = s.seg) (fired : x.fired = s.fired) :
    segTick x = { x with seg := (segTick s).seg, fired := (segTick s).fired } := by
  have isFired : ∀ h, x.isFired h = s.isFired h := fun h => by rw [State.isFired, fired]; rfl
  rcases seg' : s.seg with c | ⟨r, h, e⟩ | ⟨u, k, e⟩ | ⟨r, h, e⟩ <;> simp only [segTick, seg, seg', isFired]
  · rw [← seg', ← seg, ← fired]
  · split <;> simp [State.setSeg, State.fire, fired]
  · simp [State.setSeg, fired]
  · split
    · rw [← seg, ← fired]
    · split <;> simp [State.setSeg, State.fire, fired]

/-- The flip of a boundary tick is the one R158 forecasts. -/
theorem segFlip_eq_flipLaw (g : Segment) : segFlip g = flipLaw g := by
  rw [← willFlip_eq_flipLaw]
  cases g <;> rfl

theorem rasterTick_same {s : State} {t : Time} (valid : s.cellValid = true) (here : cellOf s.params t = s.lastCell) :
    rasterTick t s = s := by
  have same := (ticksAt_eq_false_iff s t).mpr ⟨valid, here.symm⟩
  simp [rasterTick, same]

/-- A boundary tick as a whole next state (R150, R174). -/
theorem rasterTick_boundary {s : State} {t : Time} (new : s.ticksAt t = true) (first : s.switchNext = true) :
    rasterTick t s =
      { s with
        lastCell := cellOf s.params t
        cellValid := true
        switchNext := false
        seg := (boundaryTick s).seg
        fired := (boundaryTick s).fired
        phase := xor s.phase (flipLaw s.seg)
        riseEn := s.fallEn || flipLaw s.seg } := by
  obtain ⟨same, -⟩ | ⟨-, -, ticks⟩ | ⟨-, second, -⟩ := rasterTick_cases t s
  · simp [new] at same
  · rw [ticks, boundaryTick, segFlip_eq_flipLaw, segTick_eq_of_same (s := s)]
    all_goals rfl
  · simp [first] at second

/-- The raster and the tick write the cell registers, the parity, the enables, the phase, the segment and `FIRED` only. -/
theorem rasterTick_frame (t : Time) (s : State) :
    ∃ seg ph sn cv lc fe re fired, rasterTick t s =
      { s with seg := seg, phase := ph, switchNext := sn, cellValid := cv, lastCell := lc, fallEn := fe, riseEn := re,
               fired := fired } := by
  obtain ⟨-, e⟩ | ⟨new, first, -⟩ | ⟨-, -, e⟩ := rasterTick_cases t s
  · exact ⟨_, _, _, _, _, _, _, _, e⟩
  · exact ⟨_, _, _, _, _, _, _, _, rasterTick_boundary new first⟩
  · exact ⟨_, _, _, _, _, _, _, _, e⟩

/-- The tick leaves the segment or takes the segment's own tick. -/
theorem rasterTick_seg (t : Time) (s : State) :
    (rasterTick t s).seg = s.seg ∨ TickedSeg s.seg (rasterTick t s).seg := by
  obtain ⟨-, e⟩ | ⟨new, first, -⟩ | ⟨-, -, e⟩ := rasterTick_cases t s
  · exact .inl (congrArg State.seg e)
  · rw [rasterTick_boundary new first]
    exact .inr (segTick_ticked s)
  · exact .inl ((congrArg State.seg e).trans rfl)

/-- A step whose raster part changes the phase performs a boundary tick that flips it: into the first cell of a baud
period, with the rise window enabled (R150). -/
theorem rasterTick_of_phase_ne {t : Time} {s : State} (flips : (rasterTick t s).phase ≠ s.phase) :
    s.ticksAt t = true ∧ s.switchNext = true ∧ (rasterTick t s).phase = (!s.phase) ∧
      (rasterTick t s).riseEn = true ∧ (rasterTick t s).switchNext = false := by
  obtain ⟨-, e⟩ | ⟨new, first, -⟩ | ⟨-, -, e⟩ := rasterTick_cases t s
  · exact absurd (congrArg State.phase e) flips
  · have tick := rasterTick_boundary new first
    rw [tick] at flips ⊢
    cases flip : flipLaw s.seg
    · simp [flip] at flips
    · exact ⟨new, first, by simp, by simp, rfl⟩
  · exact absurd (congrArg State.phase e) flips

/-! ### The rows of a popped word, by segment -/

theorem polls_of_openExhausted {g : Segment} (opened : openExhausted g = true) : polls g = true := by
  cases g <;> simp_all [openExhausted, polls]

section
variable {s : State}

theorem seqUnit_of_open (opened : openExhausted s.seg = true) (u : Byte) :
    seqUnit u s = s.setSeg (.transmit u 0 false) := by
  rcases seg : s.seg with c | ⟨r, h, e⟩ | ⟨v, k, e⟩ | ⟨r, h, e⟩ <;> simp_all [seqUnit, openExhausted]

theorem seqPre_of_open (opened : openExhausted s.seg = true) (h : Handle) : seqPre h s = s.fire h := by
  rcases seg : s.seg with c | ⟨r, g, e⟩ | ⟨v, k, e⟩ | ⟨r, g, e⟩ <;> simp_all [seqPre, openExhausted]

theorem seqEos_of_open (opened : openExhausted s.seg = true) (h : Handle) :
    seqEos h s = s.setSeg (.ending s.params.preCycles h false) := by
  rcases seg : s.seg with c | ⟨r, g, e⟩ | ⟨v, k, e⟩ | ⟨r, g, e⟩ <;> simp_all [seqEos, openExhausted, Params.endCycles]

variable {closed : Bool}

theorem seqPre_of_off (off : s.seg = .off closed) (h : Handle) :
    seqPre h s = s.setSeg (.preamble s.params.preCycles h false) := by
  simp [seqPre, off]

theorem seqEos_of_off (off : s.seg = .off closed) (h : Handle) : seqEos h s = (s.fire h).setSeg (.off true) := by
  simp [seqEos, off]

end

/-! ### No word is taken -/

theorem seqReady_of_blocked {s : State} (blocked : s.fault ≠ 0#2 ∨ s.cancel = true ∨ polls s.seg = false) :
    s.seqReady = false := by
  refine Bool.eq_false_iff.mpr fun ready => ?_
  obtain ⟨noFault, live, asks⟩ := (seqReady_iff s).mp ready
  simp [noFault, live, asks] at blocked

theorem sequencerPart_pq_of_blocked {s : State} (blocked : s.cancel = true ∨ polls s.seg = false) :
    (sequencerPart s).pq = s.pq := by
  obtain ⟨-, e⟩ | ⟨-, -, e⟩ | ⟨-, -, e⟩ | ⟨-, -, -, e⟩ | ⟨live, asks, -⟩ := sequencerPart_cases s
  case inr.inr.inr.inr => simp [live, asks] at blocked
  all_goals exact (congrArg State.pq e).trans rfl

theorem rasterTick_pq (t : Time) (s : State) : (rasterTick t s).pq = s.pq := by
  obtain ⟨_, _, _, _, _, _, _, _, e⟩ := rasterTick_frame t s
  rw [e]

theorem sampleStep_pq (t : Time) (s : State) : (sampleStep t s).pq = (sequencerPart s).pq := by
  obtain ⟨-, e⟩ | ⟨-, e⟩ := sampleStep_cases t s <;> rw [e]
  exact rasterTick_pq t (sequencerPart s)

/-! ### Segments that count down -/

/-- The Preamble and the End: the two segments with a count of cycles, a handle and an exhaustion bit. -/
def IsCountdown (mk : Nat → Handle → Bool → Segment) : Prop := mk = .preamble ∨ mk = .ending

/-- A tick of a Preamble or an End takes one cycle and flips the phase; the last one exhausts and acknowledges (R151,
R156). -/
theorem boundaryTick_countdown {mk : Nat → Handle → Bool → Segment} (counts : IsCountdown mk) {s : State} {r : Nat}
    {h : Handle} (seg : s.seg = mk r h false) (some_left : 1 ≤ r) (unfired : s.isFired h = false) :
    (boundaryTick s).seg = mk (r - 1) h (decide (r = 1)) ∧ (boundaryTick s).phase = (!s.phase) ∧
      (boundaryTick s).isFired h = decide (r = 1) := by
  have acked : ∀ (g : Segment) (x y : Bool),
      State.isFired { s.fire h with seg := g, phase := x, riseEn := y } h = true := fun _ _ _ =>
    (isFired_fire s h h).trans (by simp)
  by_cases last : r = 1
  · subst last
    obtain rfl | rfl := counts
    · rw [boundaryTick_preamble_last seg (.inl le_rfl)]
      exact ⟨rfl, rfl, acked _ _ _⟩
    · rw [boundaryTick_ending_last seg]
      exact ⟨rfl, rfl, acked _ _ _⟩
  · have more : 1 < r := by omega
    obtain rfl | rfl := counts
    · rw [boundaryTick_preamble seg more unfired]
      exact ⟨by simp [last], rfl, unfired.trans (by simp [last])⟩
    · rw [boundaryTick_ending seg more]
      exact ⟨by simp [last], rfl, unfired.trans (by simp [last])⟩

theorem decide_odd_succ (n : Nat) : decide ((n + 1) % 2 = 1) = !decide (n % 2 = 1) := by
  rw [← decide_not, decide_eq_decide]
  omega

theorem boundaryTicks_countdown {mk : Nat → Handle → Bool → Segment} (counts : IsCountdown mk) {s : State} {r : Nat}
    {h : Handle} (seg : s.seg = mk r h false) (some_left : 1 ≤ r) (unfired : s.isFired h = false) (n : Nat)
    (within : n ≤ r) :
    (boundaryTicks n s).seg = mk (r - n) h (decide (n = r)) ∧
      (boundaryTicks n s).phase = xor s.phase (decide (n % 2 = 1)) ∧ (boundaryTicks n s).isFired h = decide (n = r) := by
  induction n with
  | zero =>
    have notYet : decide (0 = r) = false := by simp; omega
    rw [notYet]
    exact ⟨seg, by simp [boundaryTicks], unfired⟩
  | succ n ih =>
    obtain ⟨seg', phase', fired'⟩ := ih (by omega)
    have notYet : decide (n = r) = false := by simp; omega
    have lastNow : decide (r - n = 1) = decide (n + 1 = r) := by rw [decide_eq_decide]; omega
    rw [notYet] at seg' fired'
    obtain ⟨seg'', phase'', fired''⟩ := boundaryTick_countdown counts seg' (by omega) fired'
    rw [boundaryTicks_succ, seg'', phase'', fired'', phase', lastNow, decide_odd_succ]
    exact ⟨by rw [Nat.sub_sub], by simp, rfl⟩

/-! ### The phase over a unit -/

/-- Among the first `n` bits of a unit, the zeros: each reverses the phase once (R153). -/
def zerosAmong (u : Byte) (n : Nat) : Nat := ((List.range n).filter fun j => !u.getLsbD (7 - j)).length

theorem zerosAmong_succ (u : Byte) (n : Nat) : zerosAmong u (n + 1) = zerosAmong u n + (!u.getLsbD (7 - n)).toNat := by
  rw [zerosAmong, List.range_succ, List.filter_append, List.length_append]
  cases bit : u.getLsbD (7 - n) <;> simp [zerosAmong, bit]

theorem boundaryTicks_phase {s : State} {u : Byte} {e : Bool} (seg : s.seg = .transmit u 0 e) (n : Nat) (within : n ≤ 8) :
    (boundaryTicks n s).phase = xor s.phase (decide (zerosAmong u n % 2 = 1)) := by
  induction n with
  | zero => simp [boundaryTicks, zerosAmong]
  | succ n ih =>
    have flip : segFlip (boundaryTicks n s).seg = !u.getLsbD (7 - n) := by
      rw [boundaryTicks_transmit_seg seg n (by omega), Nat.zero_add, segFlip, unitBit_of_lt u (by omega)]
    rw [boundaryTicks_succ, boundaryTick_phase, ih (by omega), flip, zerosAmong_succ]
    cases u.getLsbD (7 - n)
    · simp [decide_odd_succ]
    · simp

/-! ### The statements -/

/-- Settles O8: part 1 of the SAMPLE step is the dispatch of the word, and the rest follows unless it raised a fault. -/
theorem sampleTurnRunsDecodedUnit : Obligations.SampleTurnRunsDecodedUnit := by
  intro s ports rest w ws valid agenda noFault live asks queued
  have part1 := sequencerPart_of_word (s := ({ s with agenda := rest } : State).note .done) live asks queued
  refine ⟨_, (exec_decodePu w _).trans (advancing_of_polls (s := { s with agenda := rest }) noFault live asks _), ?_⟩
  rw [step_of_agenda valid agenda]
  refine (unlessFaulted_of_noFault (s := { s with agenda := rest }) noFault (sampleStep ports.t)).trans ?_
  rw [sampleStep, part1]
  rfl

/-- Settles O27: an open segment polls, and the word's action loads it. -/
theorem unitLoadsTransmit : Obligations.UnitLoadsTransmit := by
  intro s u noFault live opened
  exact (advancing_of_polls noFault live (polls_of_openExhausted opened) _).trans
    (congrArg _ (seqUnit_of_open (s := s.popPq.note .done) opened u))

/-- Settles O30: the preamble marker's action in Off and in an open segment. -/
theorem preambleMarkerOpensOrIsAcknowledged : Obligations.PreambleMarkerOpensOrIsAcknowledged := by
  refine fun s h noFault live => ⟨fun off => ?_, fun opened => ⟨_, firesOnly_fire s h, ?_⟩⟩
  · exact (advancing_of_polls noFault live (by rw [off]; rfl) _).trans
      (congrArg _ (seqPre_of_off (s := s.popPq.note .done) off h))
  · exact (advancing_of_polls noFault live (polls_of_openExhausted opened) _).trans
      (congrArg _ (seqPre_of_open (s := s.popPq.note .done) opened h))

/-- Settles O31: the end-of-message marker's action is to fire its handle. -/
theorem endOfMessageIsAcknowledged : Obligations.EndOfMessageIsAcknowledged :=
  fun s h noFault live asks => ⟨_, firesOnly_fire s h, advancing_of_polls noFault live asks (seqEom h)⟩

/-- Settles O32: the end-of-session marker's action in an open segment and in Off. -/
theorem endOfSessionEndsOrCloses : Obligations.EndOfSessionEndsOrCloses := by
  refine fun s h noFault live => ⟨fun opened => ?_, fun off => ⟨_, firesOnly_fire s h, ?_⟩⟩
  · exact (advancing_of_polls noFault live (polls_of_openExhausted opened) _).trans
      (congrArg _ (seqEos_of_open (s := s.popPq.note .done) opened h))
  · exact (advancing_of_polls noFault live (by rw [off]; rfl) _).trans
      (congrArg _ (seqEos_of_off (s := s.popPq.note .done) off h))

/-- Settles O33: the condition of the pop fails, and part 1 of a SAMPLE step pops on that condition only. -/
theorem nothingIsPoppedUnlessPolling : Obligations.NothingIsPoppedUnlessPolling := by
  intro s w blocked
  refine ⟨(exec_decodePu w s).trans (notEnabled_of_not_seqReady (seqReady_of_blocked blocked) _),
    fun t a f p s' ran => ?_⟩
  by_cases noFault : s.fault = 0#2
  · cases (exec_sample_of_noFault noFault t a f p).symm.trans ran
    exact (sampleStep_pq t _).trans
      (sequencerPart_pq_of_blocked (s := s.note .done) (blocked.resolve_left (absurd noFault)))
  · cases (unlessFaulted_of_fault noFault (sampleStep t)).symm.trans ran
    rfl

/-- Settles O34: part 1 closes the End, and parts 2 to 4 run in Off. -/
theorem exhaustedEndCloses : Obligations.ExhaustedEndCloses := by
  intro s r h t cell tick a f p noFault live ends here ticks
  subst here ticks
  have part1 := sequencerPart_of_ending (s := s.note .done) live ends
  have goesOn : (sequencerPart (s.note .done)).fault = 0#2 := by rw [part1]; exact noFault
  rw [exec_sample_of_noFault noFault, sampleStep, if_pos goesOn, part1, samplePart_off rfl]
  rfl

/-- Settles O39: one induction for both segments, over their common tick. -/
theorem preambleAndEndLastTheirCycles : Obligations.PreambleAndEndLastTheirCycles := by
  intro s r n h some_left within unfired seg
  have preamble := fun pre : s.seg = .preamble r h false =>
    boundaryTicks_countdown (.inl rfl) pre some_left unfired n within
  have ending := fun ends : s.seg = .ending r h false =>
    boundaryTicks_countdown (.inr rfl) ends some_left unfired n within
  refine ⟨fun pre => (preamble pre).1, fun ends => (ending ends).1, ?_⟩
  obtain pre | ends := seg
  · exact (preamble pre).2
  · exact (ending ends).2

/-- Settles O40: the segment after `n` ticks, and a reversal for each zero bit among them. -/
theorem unitLastsEightTicks : Obligations.UnitLastsEightTicks := by
  intro s u n seg within
  refine ⟨?_, boundaryTicks_phase seg n within⟩
  have exhausts : (false || (decide (1 ≤ n) && (decide (0 + n = 8) || decide (u = 0#8)))) =
      (decide (n = 8) || (decide (u = 0#8) && decide (1 ≤ n))) := by
    rcases n with _ | n <;> simp
  rw [boundaryTicks_transmit_seg seg n (by omega), exhausts, Nat.zero_add]

end Sys2Proof
end

section
/-! PROOFS. What part 1 of a SAMPLE step can do (R130 to R142), and what a whole SAMPLE step may write. -/

namespace Sys2Proof

open Sys2Proof.Machine

/-! ### Part 1 of a SAMPLE step -/

theorem polls_cases {g : Segment} (asks : polls g = true) : g = .off false ∨ openExhausted g = true := by
  cases g <;> simp_all [polls, openExhausted]

/-- What a popped word makes of a state with a polling segment, row by row (R133 to R142). -/
inductive PopEffect (s : State) (w : PuWord) : State → Prop
  | unitFaults : s.seg = .off false → puTag w = 0#3 → PopEffect s w (s.raise 2#2)
  | reservedFaults : 4 ≤ (puTag w).toNat → PopEffect s w (s.raise 1#2)
  | loads (u : Byte) : openExhausted s.seg = true → PopEffect s w (s.setSeg (.transmit u 0 false))
  | opens (h : Handle) : s.seg = .off false → PopEffect s w (s.setSeg (.preamble s.params.preCycles h false))
  | acknowledges (h : Handle) : (s.seg = .off false → puTag w = 2#3) → PopEffect s w (s.fire h)
  | ends (h : Handle) : openExhausted s.seg = true → PopEffect s w (s.setSeg (.ending s.params.preCycles h false))
  | closes (h : Handle) : s.seg = .off false → PopEffect s w ((s.fire h).setSeg (.off true))

theorem seqUnit_of_off {s : State} {closed : Bool} (off : s.seg = .off closed) (u : Byte) :
    seqUnit u s = s.raise 2#2 := by
  simp [seqUnit, off]

theorem seqDispatch_effect {s : State} (asks : polls s.seg = true) (w : PuWord) :
    PopEffect s w (seqDispatch (decodePu w) s) := by
  obtain g | g | g | g | g := tag_cases (puTag w)
  · rw [decodePu_of_tag_unit g]
    change PopEffect s w (seqUnit (puData w) s)
    obtain off | opened := polls_cases asks
    · rw [seqUnit_of_off off]
      exact .unitFaults off g
    · rw [seqUnit_of_open opened]
      exact .loads _ opened
  · rw [decodePu_of_tag_pre g]
    change PopEffect s w (seqPre (puData w) s)
    obtain off | opened := polls_cases asks
    · rw [seqPre_of_off off]
      exact .opens _ off
    · rw [seqPre_of_open opened]
      exact .acknowledges _ fun off => by simp [off, openExhausted] at opened
  · rw [decodePu_of_tag_eom g]
    exact .acknowledges _ fun _ => g
  · rw [decodePu_of_tag_eos g]
    change PopEffect s w (seqEos (puData w) s)
    obtain off | opened := polls_cases asks
    · rw [seqEos_of_off off]
      exact .closes _ off
    · rw [seqEos_of_open opened]
      exact .ends _ opened
  · rw [decodePu_of_tag_reserved g]
    exact .reservedFaults g

/-- What part 1 of a SAMPLE step makes of a state: nothing, the close of the block, or the effect of one popped word. -/
inductive Part1Effect (s : State) : State → Prop
  | nothing : Part1Effect s s
  | closes : Part1Effect s (s.setSeg (.off true))
  | pops (w : PuWord) (ws : List PuWord) (x : State) : s.cancel = false → polls s.seg = true → s.pq = w :: ws →
      PopEffect s.popPq w x → Part1Effect s x

/-- Said once: what part 1 of a SAMPLE step can do. -/
theorem sequencerPart_effect (s : State) : Part1Effect s (sequencerPart s) := by
  obtain ⟨-, e⟩ | ⟨-, -, e⟩ | ⟨-, -, e⟩ | ⟨-, -, -, e⟩ | ⟨live, asks, w, ws, queued, e⟩ := sequencerPart_cases s <;> rw [e]
  · exact .closes
  · exact .nothing
  · exact .closes
  · exact .nothing
  · exact .pops w ws _ live asks queued (seqDispatch_effect (s := s.popPq) asks w)

/-- What a SAMPLE step may write (10_state.md section 1). -/
def OnlySamples (s s' : State) : Prop :=
  ∃ seg ph sn cv lc fe re fault pq fired report, s' =
    { s with seg := seg, phase := ph, switchNext := sn, cellValid := cv, lastCell := lc, fallEn := fe, riseEn := re,
             fault := fault, pq := pq, fired := fired, report := report }

theorem OnlySamples.trans {a b c : State} (first : OnlySamples a b) (second : OnlySamples b c) : OnlySamples a c := by
  obtain ⟨_, _, _, _, _, _, _, _, _, _, _, rfl⟩ := first
  obtain ⟨_, _, _, _, _, _, _, _, _, _, _, rfl⟩ := second
  exact ⟨_, _, _, _, _, _, _, _, _, _, _, rfl⟩

/-- Part 1 writes the segment, `FAULT`, `PQ`, `FIRED` and the report only. -/
theorem Part1Effect.frame {s x : State} (effect : Part1Effect s x) :
    ∃ seg fault pq fired report, x =
      { s with seg := seg, fault := fault, pq := pq, fired := fired, report := report } := by
  cases effect with
  | nothing => exact ⟨_, _, _, _, _, rfl⟩
  | closes => exact ⟨_, _, _, _, _, rfl⟩
  | pops w ws x live asks queued effect => cases effect <;> exact ⟨_, _, _, _, _, rfl⟩

theorem Part1Effect.onlySamples {s x : State} (effect : Part1Effect s x) : OnlySamples s x := by
  obtain ⟨_, _, _, _, _, rfl⟩ := effect.frame
  exact ⟨_, _, _, _, _, _, _, _, _, _, _, rfl⟩

/-! ### A whole SAMPLE step -/

theorem rasterTick_onlySamples (t : Time) (s : State) : OnlySamples s (rasterTick t s) := by
  obtain ⟨_, _, _, _, _, _, _, _, e⟩ := rasterTick_frame t s
  exact ⟨_, _, _, _, _, _, _, _, _, _, _, e⟩

theorem samplePart_onlySamples (t : Time) (s : State) : OnlySamples s (samplePart t s) :=
  (rasterTick_onlySamples t s).trans ⟨_, _, _, _, _, _, _, _, _, _, _, rfl⟩

theorem sampleStep_onlySamples (t : Time) (s : State) : OnlySamples s (sampleStep t s) := by
  have part1 := (sequencerPart_effect s).onlySamples
  obtain ⟨-, e⟩ | ⟨-, e⟩ := sampleStep_cases t s <;> rw [e]
  · exact part1
  · exact part1.trans (samplePart_onlySamples t _)

end Sys2Proof
end

section
/-! PROOFS. The sample synthesizer: SHAPE and GAIN (R10, R178, R179), the amplitude's bounds (R182, R183), the triple of a
SAMPLE step, and the views of R45. -/

namespace Sys2Proof

open Sys2Proof.Machine

/-! ### The constraints of a configuration -/

theorem valid_iff (p : Params) : p.valid = true ↔
    2 ≤ p.cellLen ∧ 1 ≤ p.rampW ∧ p.rampW ≤ p.cellLen / 2 ∧ 1 ≤ p.ampOne ∧ p.shapeOk = true ∧ 1 ≤ p.preCycles ∧
      1 ≤ p.tqDepth ∧ 3 ≤ p.pqDepth ∧ p.tqDepth + p.pqDepth + 4 < 2 ^ 8 ∧ Config.codesRising p.table = true := by
  simp [Params.valid, and_assoc]

/-! ### SHAPE -/

theorem rising_iff_pairwise (l : List Nat) : Config.rising l = true ↔ l.Pairwise (· ≤ ·) := by
  rw [← List.isChain_iff_pairwise]
  induction l with
  | nil => simp [Config.rising]
  | cons a l ih =>
    cases l with
    | nil => simp [Config.rising]
    | cons b l => rw [Config.rising, Bool.and_eq_true, decide_eq_true_eq, ih, List.isChain_cons_cons]

/-- The three properties R10 asks of a supplied table. -/
theorem shapeOk_table_iff {p : Params} {l : List Nat} (shape : p.shape = .table l) : p.shapeOk = true ↔
    l.length = p.rampW + 1 ∧ l.head? = some 0 ∧ l.getLast? = some p.ampOne ∧ l.Pairwise (· ≤ ·) := by
  simp [Params.shapeOk, shape, rising_iff_pairwise, and_assoc]

section
variable {p : Params} (ok : p.shapeOk = true)
include ok

theorem shapeAt_zero : shapeAt p 0 = 0 := by
  cases shape : p.shape with
  | linear => simp [shapeAt, shape]
  | table l =>
    obtain ⟨-, first, -, -⟩ := (shapeOk_table_iff shape).mp ok
    rw [List.head?_eq_getElem?] at first
    simp [shapeAt, shape, first]

theorem shapeAt_rampW (ramp : 1 ≤ p.rampW) : shapeAt p p.rampW = p.ampOne := by
  cases shape : p.shape with
  | linear => simp [shapeAt, shape, Nat.mul_div_cancel_left p.ampOne ramp]
  | table l =>
    obtain ⟨length, -, last, -⟩ := (shapeOk_table_iff shape).mp ok
    rw [List.getLast?_eq_getElem?, length, Nat.add_sub_cancel] at last
    simp [shapeAt, shape, last]

theorem shapeAt_mono {a b : Nat} (le : a ≤ b) (within : b ≤ p.rampW) : shapeAt p a ≤ shapeAt p b := by
  cases shape : p.shape with
  | linear => simpa [shapeAt, shape] using Nat.div_le_div_right (Nat.mul_le_mul_right p.ampOne le)
  | table l =>
    obtain ⟨length, -, -, rising⟩ := (shapeOk_table_iff shape).mp ok
    obtain rfl | less := Nat.eq_or_lt_of_le le
    · exact le_rfl
    · have later := List.pairwise_iff_getElem.mp rising a b (by omega) (by omega) less
      simpa [shapeAt, shape, List.getElem?_eq_getElem (show a < l.length by omega),
        List.getElem?_eq_getElem (show b < l.length by omega)] using later

theorem shapeAt_le (ramp : 1 ≤ p.rampW) {r : Nat} (within : r ≤ p.rampW) : shapeAt p r ≤ p.ampOne :=
  (shapeAt_mono ok within le_rfl).trans_eq (shapeAt_rampW ok ramp)

end

/-! ### GAIN and the amplitude -/

theorem gain_mono (p : Params) (g : Segment) {base base' : Nat} (le : base ≤ base') : gain p g base ≤ gain p g base' := by
  cases g with
  | off c => exact le_rfl
  | preamble r h e => exact Nat.div_le_div_right (Nat.mul_le_mul_right _ le)
  | transmit u k e => exact le
  | ending r h e => exact Nat.div_le_div_right (Nat.mul_le_mul_right _ le)

theorem gain_zero (p : Params) (g : Segment) : gain p g 0 = 0 := by
  cases g <;> simp [gain]

/-- With its counters in range no segment amplifies (R178, R179). -/
theorem gain_le {p : Params} {g : Segment} (range : segInRange p g = true) (base : Nat) : gain p g base ≤ base := by
  cases g with
  | off c => exact Nat.zero_le base
  | preamble r h e =>
    refine Nat.div_le_of_le_mul ?_
    rw [Nat.mul_comm p.preCycles]
    exact Nat.mul_le_mul_left base (Nat.sub_le _ _)
  | transmit u k e => exact le_rfl
  | ending r h e =>
    refine Nat.div_le_of_le_mul ?_
    rw [Nat.mul_comm p.endCycles]
    exact Nat.mul_le_mul_left base (of_decide_eq_true range)

theorem rampValue_le (p : Params) (pos : Nat) : rampValue p pos ≤ p.rampW := Nat.min_le_right _ _

theorem baseAmplitude_of_dips {s : State} {pos : Nat} (dips : s.dips pos = true) :
    s.baseAmplitude pos = shapeAt s.params (rampValue s.params pos) := if_pos dips

theorem baseAmplitude_of_flat {s : State} {pos : Nat} (flat : s.dips pos = false) :
    s.baseAmplitude pos = s.params.ampOne := if_neg (by simp [flat])

theorem baseAmplitude_le {s : State} (valid : s.params.valid = true) (pos : Nat) :
    s.baseAmplitude pos ≤ s.params.ampOne := by
  obtain ⟨-, ramp, -, -, ok, -⟩ := (valid_iff s.params).mp valid
  cases dips : s.dips pos
  · exact (baseAmplitude_of_flat dips).le
  · rw [baseAmplitude_of_dips dips]
    exact shapeAt_le ok ramp (rampValue_le s.params pos)

theorem amplitude_le {s : State} (valid : s.params.valid = true) (range : segInRange s.params s.seg = true) (pos : Nat) :
    s.amplitude pos ≤ s.params.ampOne :=
  (gain_le range _).trans (baseAmplitude_le valid pos)

/-- Both positions in an enabled window: the amplitude follows the ramp. -/
theorem amplitude_le_of_rampValue_le {s : State} (valid : s.params.valid = true) {a b : Nat} (dipsA : s.dips a = true)
    (dipsB : s.dips b = true) (le : rampValue s.params a ≤ rampValue s.params b) : s.amplitude a ≤ s.amplitude b := by
  obtain ⟨-, -, -, -, ok, -⟩ := (valid_iff s.params).mp valid
  refine gain_mono _ _ ?_
  rw [baseAmplitude_of_dips dipsA, baseAmplitude_of_dips dipsB]
  exact shapeAt_mono ok le (rampValue_le _ _)

/-- The start of a cell with the rise window enabled is silent (R173, R177). -/
theorem amplitude_zero_of_rise {s : State} (valid : s.params.valid = true) (first : s.switchNext = false)
    (rise : s.riseEn = true) : s.amplitude 0 = 0 := by
  obtain ⟨-, ramp, -, -, ok, -⟩ := (valid_iff s.params).mp valid
  have dips : s.dips 0 = true := (dips_iff s 0).mpr (.inl ⟨by simp [first], rise, ramp⟩)
  have atZero : rampValue s.params 0 = 0 := by simp [rampValue]
  rw [State.amplitude, baseAmplitude_of_dips dips, atZero, shapeAt_zero ok, gain_zero]

/-! ### The segment's range over a SAMPLE step -/

theorem TickedSeg.inRange {p : Params} {g g' : Segment} (ticked : TickedSeg g g') (range : segInRange p g = true) :
    segInRange p g' = true := by
  cases ticked with
  | off c => rfl
  | preamble h e e' le => exact decide_eq_true (le.trans (of_decide_eq_true range))
  | transmit u e e' within => exact decide_eq_true (within (of_decide_eq_true range))
  | ending h e e' le => exact decide_eq_true (le.trans (of_decide_eq_true range))

theorem PopEffect.inRange {s x : State} {w : PuWord} (effect : PopEffect s w x)
    (range : segInRange s.params s.seg = true) : segInRange x.params x.seg = true := by
  cases effect with
  | unitFaults off unit => exact range
  | reservedFaults reserved => exact range
  | loads u opened => rfl
  | opens h off => exact decide_eq_true le_rfl
  | acknowledges h onlyEom => exact range
  | ends h opened => exact decide_eq_true le_rfl
  | closes h off => rfl

theorem Part1Effect.inRange {s x : State} (effect : Part1Effect s x) (range : segInRange s.params s.seg = true) :
    segInRange x.params x.seg = true := by
  cases effect with
  | nothing => exact range
  | closes => rfl
  | pops w ws x live asks queued effect => exact effect.inRange range

theorem OnlySamples.params {s s' : State} (samples : OnlySamples s s') : s'.params = s.params := by
  obtain ⟨_, _, _, _, _, _, _, _, _, _, _, rfl⟩ := samples
  rfl

theorem rasterTick_inRange {s : State} (range : segInRange s.params s.seg = true) (t : Time) :
    segInRange (rasterTick t s).params (rasterTick t s).seg = true := by
  rw [(rasterTick_onlySamples t s).params]
  obtain same | ticked := rasterTick_seg t s
  · rwa [same]
  · exact ticked.inRange range

theorem sampleStep_inRange {s : State} (range : segInRange s.params s.seg = true) (t : Time) :
    segInRange (sampleStep t s).params (sampleStep t s).seg = true := by
  have range1 := (sequencerPart_effect s).inRange range
  obtain ⟨-, e⟩ | ⟨-, e⟩ := sampleStep_cases t s <;> rw [e]
  · exact range1
  · exact rasterTick_inRange range1 t

/-! ### The triple of a SAMPLE step -/

/-- A SAMPLE step that returns a triple returns the amplitude of a state with the same parameters and a segment in range:
the state after its tick (R176). -/
theorem sampleStep_amplitude {t : Time} {s : State} {amp : Nat} {freq : Freq} {ph : Bool} (fresh : s.report = .done)
    (range : segInRange s.params s.seg = true) (returned : (sampleStep t s).report = .triple amp freq ph) :
    ∃ x : State, x.params = s.params ∧ segInRange x.params x.seg = true ∧ amp = x.amplitude (posOf x.params t) := by
  have part1 := sequencerPart_effect s
  obtain ⟨-, e⟩ | ⟨-, e⟩ := sampleStep_cases t s <;> rw [e] at returned
  · obtain same | faulted := sequencerPart_report s
    · simp [same, fresh] at returned
    · simp [faulted] at returned
  · refine ⟨rasterTick t (sequencerPart s), ?_, rasterTick_inRange (part1.inRange range) t, ?_⟩
    · rw [(rasterTick_onlySamples t _).params, part1.onlySamples.params]
    · exact (Report.triple.inj returned).1.symm

/-- A SAMPLE step that changes the phase is not cancelled and performs a boundary tick; the tick flips the phase into a
boundary cell with its rise window enabled (R150, R176). -/
theorem sampleStep_of_phase_ne {t : Time} {s : State} (flips : (sampleStep t s).phase ≠ s.phase) :
    s.ticksAt t = true ∧ s.switchNext = true ∧ ∃ x : State, sampleStep t s = samplePart t (sequencerPart s) ∧
      x = rasterTick t (sequencerPart s) ∧ x.phase = (!s.phase) ∧ x.riseEn = true ∧ x.switchNext = false ∧
      x.params = s.params ∧ x.carrier = s.carrier := by
  obtain ⟨_, _, _, _, _, part1⟩ := (sequencerPart_effect s).frame
  have phase1 : (sequencerPart s).phase = s.phase := by rw [part1]
  have ticks1 : (sequencerPart s).ticksAt t = s.ticksAt t := by rw [part1]; rfl
  have parity1 : (sequencerPart s).switchNext = s.switchNext := by rw [part1]
  have params1 : (sequencerPart s).params = s.params := by rw [part1]
  obtain ⟨-, e⟩ | ⟨-, e⟩ := sampleStep_cases t s
  · exact absurd ((congrArg State.phase e).trans phase1) flips
  · rw [e] at flips
    obtain ⟨ticks, first, phase, rise, second⟩ :=
      rasterTick_of_phase_ne (t := t) (s := sequencerPart s) (fun same => flips (same.trans phase1))
    exact ⟨ticks1 ▸ ticks, parity1 ▸ first, _, e, rfl, phase.trans (by rw [phase1]), rise, second,
      (rasterTick_onlySamples t _).params.trans params1,
      (rasterTick_carrier t _).trans (sequencerPart_carrier s)⟩

/-! ### The views of R45 -/

theorem segClosed_eq (g : Segment) : segClosed g = decide (g = .off true) := by
  rcases g with c | _ | _ | _
  · cases c <;> rfl
  all_goals rfl

/-- Bits 1:0 of `STATUS` lie below its six one-bit fields. -/
theorem statusView_kind (s : State) : s.statusView.extractLsb' 0 2 = segKind s.seg := by
  have below : ∀ {n : Nat} (b : Bool) (v : BitVec n), 2 ≤ n →
      (BitVec.ofBool b ++ v).extractLsb' 0 2 = v.extractLsb' 0 2 := fun _ _ within =>
    BitVec.extractLsb'_append_eq_of_add_le within
  rw [State.statusView, below _ _ (by decide), below _ _ (by decide), below _ _ (by decide), below _ _ (by decide),
    below _ _ (by decide), BitVec.extractLsb'_append_eq_right]

theorem csr_result (s : State) : s.csr 3#2 = 2 * s.result.n + s.result.err.toNat := rfl

/-! ### The statements -/

/-- Settles O41: the raster part does nothing, and the triple's amplitude is the law's. -/
theorem sampleWithinACell : Obligations.SampleWithinACell := by
  intro s t valid here
  refine ⟨?_, fun noFault quiet a f p => exec_sample_of_quiet noFault quiet t a f p⟩
  simp only [samplePart, rasterTick_same valid here, amplitude_eq_amplitudeLaw]
  rfl

/-- Settles O43: the raster part is the boundary tick, and the triple's amplitude is the law's. -/
theorem sampleBoundaryTick : Obligations.SampleBoundaryTick := by
  refine ⟨fun s t cell here new first => ?_, fun s closed off => boundaryTick_off off⟩
  subst here
  refine ⟨?_, fun noFault quiet a f p => exec_sample_of_quiet noFault quiet t a f p⟩
  simp only [samplePart, amplitude_eq_amplitudeLaw, rasterTick_boundary (ticksAt_of_newCell new) first]
  rfl

/-- Settles O44: the triple is the amplitude of a state with its segment in range. -/
theorem amplitudeWithinFullScale : Obligations.AmplitudeWithinFullScale := by
  intro s s' t a f p amp freq ph valid range noFault ran returned
  cases (exec_sample_of_noFault noFault t a f p).symm.trans ran
  obtain ⟨x, params, range', rfl⟩ := sampleStep_amplitude (s := s.note .done) rfl range returned
  have params' : x.params = s.params := params
  rw [← params'] at valid ⊢
  exact amplitude_le valid range' _

/-- Settles O46: the flipping tick enables the rise window, whose start is silent. -/
theorem phaseFlipsAtZeroAmplitude : Obligations.PhaseFlipsAtZeroAmplitude := by
  intro s s' t a f p valid ran flips start
  by_cases noFault : s.fault = 0#2
  · cases (exec_sample_of_noFault noFault t a f p).symm.trans ran
    obtain ⟨-, -, x, e, rfl, phase, rise, first, params, carrier⟩ := sampleStep_of_phase_ne (s := s.note .done) flips
    have atStart : posOf (rasterTick t (sequencerPart (s.note .done))).params t = 0 := by rw [params]; exact start
    rw [e]
    simp only [samplePart, atStart, phase, carrier]
    rw [amplitude_zero_of_rise (by rw [params]; exact valid) first rise]
    rfl
  · cases (unlessFaulted_of_fault noFault (sampleStep t)).symm.trans ran
    exact absurd rfl flips

/-- Settles O47: inside a window the amplitude follows the ramp, outside it is that of full scale. -/
theorem amplitudeMonotoneInWindows : Obligations.AmplitudeMonotoneInWindows := by
  intro s pos valid
  obtain ⟨-, -, half, -⟩ := (valid_iff s.params).mp valid
  refine ⟨fun first rise within => ?_, fun second fall inWindow within => ?_, fun pos' flat flat' => ?_⟩
  · have dips : ∀ q, q < s.params.rampW → s.dips q = true := fun q hq =>
      (dips_iff s q).mpr (.inl ⟨by simp [first], rise, hq⟩)
    refine amplitude_le_of_rampValue_le valid (dips pos (by omega)) (dips (pos + 1) within) ?_
    unfold rampValue
    omega
  · have dips : ∀ q, s.params.cellLen - s.params.rampW ≤ q → s.dips q = true := fun q hq =>
      (dips_iff s q).mpr (.inr ⟨by simp [second], fall, hq⟩)
    refine amplitude_le_of_rampValue_le valid (dips (pos + 1) (by omega)) (dips pos inWindow) ?_
    unfold rampValue
    omega
  · rw [State.amplitude, State.amplitude, baseAmplitude_of_flat flat, baseAmplitude_of_flat flat']

/-- Settles O52: each bit of the concatenation, and the register list by number. -/
theorem statusRegisterView : Obligations.StatusRegisterView := by
  intro s
  have errBit := Bool.toNat_le s.result.err
  refine ⟨?bit7, ?bit6, ?bit5, ?bit4, ?bit3, ?bit2, ?kind, rfl, rfl, rfl, ?err, ?count⟩
  case kind => exact (statusView_kind s).trans (by cases s.seg <;> rfl)
  case err => rw [csr_result]; omega
  case count => rw [csr_result]; omega
  case bit2 => simp only [State.statusView, BitVec.getLsbD_append, BitVec.getLsbD_ofBool]; simp [segClosed_eq]
  case bit4 => simp only [State.statusView, BitVec.getLsbD_append, BitVec.getLsbD_ofBool]; simp [bne, beq_eq_decide]
  all_goals simp only [State.statusView, BitVec.getLsbD_append, BitVec.getLsbD_ofBool]; simp

end Sys2Proof
end

section
/-! PROOFS. What every step does and leaves alone: the producer's pushes, the configuration and the sticky flags (R32 to R34,
R100), the phase (R28), the order of the segments (R161), the registers each agent writes (10_state.md section 1). -/

namespace Sys2Proof

open Sys2Proof.Machine

/-! ### The producer's step -/

/-- What a PROD_STEP appends to `TQ`, with the operation left in flight: nothing; a data token in the data stage; or a
marker outside it, behind which the operation may go on to push data only if the marker opens the stream (R91 to R97). -/
inductive ProducerPush (s : State) : List TokWord → Machine.Prod → Prop
  | nothing (p : Machine.Prod) : (inDataStage p = true → inDataStage s.prod = true) → ProducerPush s [] p
  | data (w : TokWord) (p : Machine.Prod) : s.tq.length < s.params.tqDepth → inDataStage s.prod = true →
      tokTag w = 0#3 → ProducerPush s [w] p
  | marker (w : TokWord) (p : Machine.Prod) : s.tq.length < s.params.tqDepth → inDataStage s.prod = false →
      (tokTag w).toNat < 4 → opensFirst (tokTag w :: pendingTags p) = true → ProducerPush s [w] p

theorem ProducerPush.length_le {s : State} {ts : List TokWord} {p : Machine.Prod} (push : ProducerPush s ts p)
    (fits : s.tq.length ≤ s.params.tqDepth) : (s.tq ++ ts).length ≤ s.params.tqDepth := by
  rw [List.length_append]
  cases push with
  | nothing => exact fits
  | data w p room => exact room
  | marker w p room => exact room

/-- `s'` is `s` after a PROD_STEP: tokens appended to `TQ`, and the producer's registers. -/
def Produces (s s' : State) : Prop :=
  ∃ ts nh fired prod result report, ProducerPush s ts prod ∧ s' =
    { s with tq := s.tq ++ ts, nextHandle := nh, fired := fired, prod := prod, result := result, report := report }

theorem notEnabled_produces (s : State) : Produces s s.notEnabled :=
  ⟨[], s.nextHandle, s.fired, s.prod, s.result, .notEnabled, .nothing _ id, by rw [List.append_nil]; rfl⟩

theorem complete_produces (s : State) (n : Nat) (e : Bool) : Produces s (s.complete n e) :=
  ⟨[], s.nextHandle, s.fired, .idle, _, _, .nothing _ nofun, by rw [List.append_nil]; rfl⟩

theorem writeData_produces {s : State} {bytes : List Byte} {idx : Nat} {h : Handle}
    (prod : s.prod = .write bytes idx .data h) : Produces s (writeData s bytes idx h) := by
  have inData : inDataStage s.prod = true := by rw [prod]; rfl
  rcases byte : bytes[idx]? with _ | b
  · rw [writeData_of_end byte]
    exact ⟨[], _, _, _, _, _, .nothing _ fun _ => inData, by rw [List.append_nil]⟩
  · rcases pattern : bytePattern s b with _ | p
    · rw [writeData_of_skip byte pattern]
      exact ⟨[], _, _, _, _, _, .nothing _ fun _ => inData, by rw [List.append_nil]⟩
    · rcases Nat.lt_or_ge s.tq.length s.params.tqDepth with room | full
      · rw [writeData_of_room byte pattern room]
        exact ⟨_, _, _, _, _, _, .data _ _ room inData (tokTag_tokDataWord p), rfl⟩
      · rw [writeData_of_full byte pattern full]
        exact notEnabled_produces s

theorem pushMarker_produces {s : State} {g : Tag} {next : Handle → Machine.Prod} (outside : inDataStage s.prod = false)
    (known : g.toNat < 4) (opens : ∀ h, opensFirst (g :: pendingTags (next h)) = true) :
    Produces s (pushMarker s g next) := by
  rcases Nat.lt_or_ge s.tq.length s.params.tqDepth with room | full
  · rw [pushMarker_eq_of_room room]
    refine ⟨[tokMarker g s.nextHandle], s.nextHandle + 1#8, s.alloc.fired, next s.nextHandle, s.result, .done,
      .marker _ _ room outside ?_ ?_, rfl⟩
    · rwa [tokTag_tokMarker]
    · rw [tokTag_tokMarker]
      exact opens _
  · rw [pushMarker_of_full full]
    exact notEnabled_produces s

/-- Said once: what a PROD_STEP appends to `TQ` and writes. -/
theorem prodStep_produces (s : State) : Produces s (prodStep s) := by
  by_cases noFault : s.fault = 0#2
  · rcases prod : s.prod with _ | ⟨bytes, idx, stage, h⟩ | ⟨stage, h⟩
    · rw [prodStep_idle prod]
      exact notEnabled_produces s
    · cases cancel : s.cancel
      · rw [prodStep_write noFault cancel prod]
        cases stage with
        | pre =>
          exact pushMarker_produces (g := 1#3) (next := fun _ => .write bytes idx .data h) (by rw [prod]; rfl)
            (by decide) fun _ => rfl
        | data => exact writeData_produces prod
        | eom =>
          exact pushMarker_produces (g := 2#3) (next := .write bytes idx .wait) (by rw [prod]; rfl) (by decide)
            fun _ => rfl
        | wait =>
          cases fired : s.isFired h <;> simp only [writeStage, fired]
          · exact notEnabled_produces s
          · exact complete_produces s _ _
      · rw [prodStep_write_of_cancel noFault cancel prod]
        exact complete_produces s idx true
    · cases cancel : s.cancel
      · rw [prodStep_ends noFault cancel prod]
        cases stage with
        | eos => exact pushMarker_produces (g := 3#3) (next := .ends .wait) (by rw [prod]; rfl) (by decide) fun _ => rfl
        | wait =>
          cases fired : s.isFired h <;> simp only [endStage, fired]
          · exact notEnabled_produces s
          · exact complete_produces s _ _
      · rw [prodStep_ends_of_cancel noFault cancel prod]
        exact complete_produces s 0 true
  · rw [prodStep_of_fault noFault]
    exact notEnabled_produces s

/-! ### The registers of the sequencer and the synthesizer -/

/-- The configuration and the registers only a SAMPLE step or RESET writes. -/
def HoldsAir (s s' : State) : Prop :=
  s'.params = s.params ∧ s'.carrier = s.carrier ∧ s'.seg = s.seg ∧ s'.phase = s.phase ∧ s'.fault = s.fault

theorem prodStep_holdsAir (s : State) : HoldsAir s (prodStep s) := by
  obtain ⟨_, _, _, _, _, _, -, e⟩ := prodStep_produces s
  rw [e]
  exact ⟨rfl, rfl, rfl, rfl, rfl⟩

theorem holdsAir_of_onlyPacks {s x : State} (packs : OnlyPacks (s.popTq.note .done) x) : HoldsAir s x := by
  obtain ⟨_, _, _, _, rfl⟩ := packs
  exact ⟨rfl, rfl, rfl, rfl, rfl⟩

/-- A turn is RESET, an enabled SAMPLE step, or leaves the sequencer's and the synthesizer's registers alone. -/
theorem TurnEffect.air {s s' : State} {turn : Turn} (effect : TurnEffect s turn s') :
    (turn = .reset ∧ s' = s.applyReset) ∨
    (∃ ports, turn = .host 4#3 ports ∧ s.fault = 0#2 ∧ s' = sampleStep ports.t (s.note .done)) ∨ HoldsAir s s' := by
  cases effect with
  | reset => exact .inl ⟨rfl, rfl⟩
  | sample ports noFault => exact .inr (.inl ⟨ports, rfl, noFault, rfl⟩)
  | produce => exact .inr (.inr (prodStep_holdsAir s))
  | packData w => exact .inr (.inr (holdsAir_of_onlyPacks (packBits_onlyPacks (tokPattern w) 16 _)))
  | packMarker w => exact .inr (.inr (holdsAir_of_onlyPacks (packMarker_onlyPacks (tokTag w) (tokLow w) _)))
  | _ => exact .inr (.inr ⟨rfl, rfl, rfl, rfl, rfl⟩)

/-- A step other than RESET is a SAMPLE turn without fault, or leaves those registers alone. -/
theorem step_air {s s' : State} (noReset : s.NoResetNext) (stepped : step s = .next s') :
    (∃ ports rest, s.agenda = .host 4#3 ports :: rest ∧ s.fault = 0#2 ∧
      s' = sampleStep ports.t ({ s with agenda := rest }.note .done)) ∨ HoldsAir s s' := by
  obtain ⟨-, rfl⟩ | ⟨turn, rest, agenda, effect⟩ := step_effect stepped
  · exact .inr ⟨rfl, rfl, rfl, rfl, rfl⟩
  · obtain ⟨isReset, -⟩ | ⟨ports, rfl, noFault, e⟩ | holds := effect.air
    · exact absurd isReset (ne_reset_of_noResetNext noReset agenda)
    · exact .inl ⟨ports, rest, agenda, noFault, e⟩
    · exact .inr holds

/-! ### The configuration and the flags -/

/-- What no step writes, and the flag that only RESET clears (R32, R100, R213). -/
theorem TurnEffect.keeps {s s' : State} {turn : Turn} (effect : TurnEffect s turn s') :
    s'.params = s.params ∧ s'.carrier = s.carrier ∧ (turn ≠ .reset → s.abortArmed = true → s'.abortArmed = true) := by
  cases effect with
  | reset => exact ⟨rfl, rfl, fun noReset => absurd rfl noReset⟩
  | sample ports =>
    obtain ⟨_, _, _, _, _, _, _, _, _, _, _, e⟩ := sampleStep_onlySamples ports.t (s.note .done)
    rw [e]
    exact ⟨rfl, rfl, fun _ armed => armed⟩
  | arm => exact ⟨rfl, rfl, fun _ _ => rfl⟩
  | produce =>
    obtain ⟨_, _, _, _, _, _, -, e⟩ := prodStep_produces s
    rw [e]
    exact ⟨rfl, rfl, fun _ armed => armed⟩
  | packData w =>
    obtain ⟨_, _, _, _, e⟩ := packBits_onlyPacks (tokPattern w) 16 (s.popTq.note .done)
    rw [Machine.packData, e]
    exact ⟨rfl, rfl, fun _ armed => armed⟩
  | packMarker w =>
    obtain ⟨_, _, _, _, e⟩ := packMarker_onlyPacks (tokTag w) (tokLow w) (s.popTq.note .done)
    rw [e]
    exact ⟨rfl, rfl, fun _ armed => armed⟩
  | _ => exact ⟨rfl, rfl, fun _ armed => armed⟩

/-! ### The order of the segments -/

/-- `g'` does not come before `g`, and if both are Preambles they are the same one, no longer than before (R161). -/
def SegFollows (g g' : Segment) : Prop :=
  segOrder g ≤ segOrder g' ∧
    ∀ r h e r' h' e', g = .preamble r h e → g' = .preamble r' h' e' → h' = h ∧ r' ≤ r

theorem SegFollows.refl (g : Segment) : SegFollows g g := by
  refine ⟨le_rfl, fun r h e r' h' e' before after => ?_⟩
  obtain ⟨rfl, rfl, -⟩ := Segment.preamble.inj (before.symm.trans after)
  exact ⟨rfl, le_rfl⟩

/-- Out of the order of the segments nothing is asked of the Preambles. -/
theorem SegFollows.of_lt {g g' : Segment} (later : segOrder g < segOrder g') : SegFollows g g' :=
  ⟨later.le, fun _ _ _ _ _ _ before after => by simp [before, after, segOrder] at later⟩

theorem SegFollows.of_le {g g' : Segment} (le : segOrder g ≤ segOrder g') (noPreamble : segOrder g' ≠ 1) :
    SegFollows g g' :=
  ⟨le, fun _ _ _ _ _ _ _ after => absurd (by rw [after]; rfl) noPreamble⟩

theorem preamble_of_segOrder {g : Segment} (order : segOrder g = 1) : ∃ r h e, g = .preamble r h e := by
  rcases g with c | ⟨r, h, e⟩ | _ | _
  · cases c <;> simp [segOrder] at order
  · exact ⟨r, h, e, rfl⟩
  all_goals simp [segOrder] at order

theorem SegFollows.trans {a b c : Segment} (first : SegFollows a b) (second : SegFollows b c) : SegFollows a c := by
  obtain ⟨le1, same1⟩ := first
  obtain ⟨le2, same2⟩ := second
  refine ⟨le1.trans le2, fun r h e r'' h'' e'' before after => ?_⟩
  have between : segOrder b = 1 := by
    rw [before] at le1
    rw [after] at le2
    exact le_antisymm le2 le1
  obtain ⟨r', h', e', mid⟩ := preamble_of_segOrder between
  obtain ⟨rfl, le⟩ := same1 _ _ _ _ _ _ before mid
  obtain ⟨rfl, le'⟩ := same2 _ _ _ _ _ _ mid after
  exact ⟨rfl, le'.trans le⟩

theorem segOrder_le_closed (g : Segment) : segOrder g ≤ 4 := by
  rcases g with c | _ | _ | _
  · cases c <;> simp [segOrder]
  all_goals simp [segOrder]

theorem SegFollows.closed (g : Segment) : SegFollows g (.off true) :=
  .of_le (segOrder_le_closed g) (by simp [segOrder])

theorem segOrder_le_of_openExhausted {g : Segment} (opened : openExhausted g = true) : segOrder g ≤ 2 := by
  cases g <;> simp_all [openExhausted, segOrder]

theorem PopEffect.follows {s x : State} {w : PuWord} (effect : PopEffect s w x) : SegFollows s.seg x.seg := by
  cases effect with
  | loads u opened => exact .of_le (segOrder_le_of_openExhausted opened) (by simp [segOrder])
  | opens h off => exact .of_lt (by simp [off, segOrder])
  | ends h opened => exact .of_lt (Nat.lt_succ_of_le (segOrder_le_of_openExhausted opened))
  | closes h off => exact .closed s.seg
  | _ => exact .refl s.seg

theorem Part1Effect.follows {s x : State} (effect : Part1Effect s x) : SegFollows s.seg x.seg := by
  cases effect with
  | nothing => exact .refl s.seg
  | closes => exact .closed s.seg
  | pops w ws x live asks queued effect => exact effect.follows

theorem TickedSeg.follows {g g' : Segment} (ticked : TickedSeg g g') : SegFollows g g' := by
  cases ticked with
  | off c => exact .refl _
  | preamble h e e' le =>
    refine ⟨le_rfl, fun _ _ _ _ _ _ before after => ?_⟩
    cases before
    cases after
    exact ⟨rfl, le⟩
  | transmit u e e' within => exact .of_le le_rfl (by simp [segOrder])
  | ending h e e' le => exact .of_le le_rfl (by simp [segOrder])

theorem sampleStep_follows (t : Time) (s : State) : SegFollows s.seg (sampleStep t s).seg := by
  have part1 := (sequencerPart_effect s).follows
  obtain ⟨-, e⟩ | ⟨-, e⟩ := sampleStep_cases t s <;> rw [e]
  · exact part1
  · refine part1.trans ?_
    obtain same | ticked := rasterTick_seg t (sequencerPart s)
    · exact same.symm ▸ .refl _
    · exact ticked.follows

/-! ### The statements -/

/-- Settles O45: only a SAMPLE turn writes the phase, and only its boundary tick; a cancelled one holds it. -/
theorem phaseChangesOnlyAtBoundaryTicks : Obligations.PhaseChangesOnlyAtBoundaryTicks := by
  intro s s' stepped noReset flips
  obtain ⟨ports, rest, agenda, noFault, rfl⟩ | ⟨-, -, -, held, -⟩ := step_air noReset stepped
  · obtain ⟨ticks, first, x, e, rfl, -, -, second, -⟩ :=
      sampleStep_of_phase_ne (s := ({ s with agenda := rest } : State).note .done) flips
    refine ⟨ports, rest, agenda, noFault, Bool.eq_false_iff.mpr fun cancelled => flips ?_, first, ?_, ?_⟩
    · exact (sampleStep_keeps_cancelled (s := ({ s with agenda := rest } : State).note .done) noFault cancelled ports.t).2.2
    · simpa [State.ticksAt] using ticks
    · rw [e]
      exact second
  · exact absurd held flips

/-- Settles O58: the effects of the turns, with the statements O50 and O56 for `CANCEL` and `FAULT`. -/
theorem parametersFixedAndFlagsSticky : Obligations.ParametersFixedAndFlagsSticky := by
  intro s s' stepped
  obtain ⟨-, -, cancelSticky⟩ := cancelledBlockIsSilentForever
  have flags := fun noReset : s.NoResetNext => And.intro
    (fun cancelled => (cancelSticky s s' stepped noReset cancelled).1)
    (fun faulted => by
      obtain ⟨⟨_, _, _, rfl⟩, -⟩ := faultHaltsTheBlock s s' faulted noReset stepped
      rfl : s.fault ≠ 0#2 → s'.fault = s.fault)
  obtain ⟨-, rfl⟩ | ⟨turn, rest, agenda, effect⟩ := step_effect stepped
  · exact ⟨⟨rfl, rfl⟩, fun noReset => ⟨(flags noReset).1, (flags noReset).2, id⟩⟩
  · obtain ⟨params, carrier, armed⟩ := effect.keeps
    exact ⟨⟨params, carrier⟩, fun noReset =>
      ⟨(flags noReset).1, (flags noReset).2, armed (ne_reset_of_noResetNext noReset agenda)⟩⟩

/-- Settles O59: only a SAMPLE step writes the segment, and each of its parts follows the order. -/
theorem segmentOrderNeverGoesBack : Obligations.SegmentOrderNeverGoesBack := by
  intro s s' noReset stepped
  obtain ⟨ports, rest, -, -, rfl⟩ | ⟨-, -, held, -, -⟩ := step_air noReset stepped
  · exact sampleStep_follows ports.t (({ s with agenda := rest } : State).note .done)
  · rw [held]
    exact SegFollows.refl s.seg

/-- Settles O60: the effects of the turn, agent by agent. -/
theorem onlyItsAgentWritesARegister : Obligations.OnlyItsAgentWritesARegister := by
  intro s s' turn rest agenda stepped
  obtain ⟨empty, -⟩ | ⟨turn', rest', agenda', effect⟩ := step_effect stepped
  · simp [agenda] at empty
  obtain ⟨rfl, rfl⟩ := List.cons.inj (agenda.symm.trans agenda')
  refine ⟨?packer, ?producer, ?watch, ?sample, ?host⟩
  case packer =>
    rintro rfl
    cases effect with
    | stuck => exact ⟨_, _, _, _, _, _, rfl⟩
    | packData w =>
      obtain ⟨_, _, _, _, e⟩ := packBits_onlyPacks (tokPattern w) 16 (({ s with agenda := rest } : State).popTq.note .done)
      exact ⟨_, _, _, _, _, _, e⟩
    | packMarker w =>
      obtain ⟨_, _, _, _, e⟩ :=
        packMarker_onlyPacks (tokTag w) (tokLow w) (({ s with agenda := rest } : State).popTq.note .done)
      exact ⟨_, _, _, _, _, _, e⟩
  case producer =>
    rintro rfl
    cases effect with
    | stuck => exact ⟨_, _, _, _, _, _, rfl⟩
    | produce =>
      obtain ⟨_, _, _, _, _, _, -, e⟩ := prodStep_produces { s with agenda := rest }
      exact ⟨_, _, _, _, _, _, e⟩
  case watch =>
    rintro rfl
    cases effect <;> exact ⟨_, _, rfl⟩
  case sample =>
    rintro ports rfl
    cases effect with
    | stuck => exact ⟨_, _, _, _, _, _, _, _, _, _, _, rfl⟩
    | sample => exact sampleStep_onlySamples ports.t (({ s with agenda := rest } : State).note .done)
    | _ => exact absurd rfl ‹_›
  case host =>
    rintro op ports other rfl
    cases effect with
    | sample => exact absurd rfl other
    | _ => exact ⟨_, _, _, _, _, _, rfl⟩

end Sys2Proof
end

section
/-! PROOFS. What every step keeps: the invariant (R47) and the wiring (R81). -/

namespace Sys2Proof

open Sys2Proof.Machine

/-! ### The invariant -/

/-- A SAMPLE step keeps the bounds of the queue it pops and the codes of the faults it raises (R34). -/
theorem Part1Effect.bounds {s x : State} (effect : Part1Effect s x) (code : s.fault ≠ 3#2) :
    x.pq.length ≤ s.pq.length ∧ x.fault ≠ 3#2 := by
  cases effect with
  | nothing => exact ⟨le_rfl, code⟩
  | closes => exact ⟨le_rfl, code⟩
  | pops w ws x live asks queued effect =>
    have popped : s.popPq.pq.length ≤ s.pq.length := by simp
    cases effect with
    | unitFaults => exact ⟨popped, by simp⟩
    | reservedFaults => exact ⟨popped, by simp⟩
    | _ => exact ⟨popped, code⟩

theorem sampleStep_inv {s : State} (inv : s.Inv) (t : Time) : (sampleStep t s).Inv := by
  obtain ⟨packer, range, tq, pq, code, carrier⟩ := inv
  have range' := sampleStep_inRange range t
  have bounds : (sampleStep t s).pq.length ≤ s.pq.length ∧ (sampleStep t s).fault ≠ 3#2 := by
    have part1 := (sequencerPart_effect s).bounds code
    obtain ⟨-, e⟩ | ⟨-, e⟩ := sampleStep_cases t s <;> rw [e]
    · exact part1
    · obtain ⟨_, _, _, _, _, _, _, _, tick⟩ := rasterTick_frame t (sequencerPart s)
      rw [samplePart, tick]
      exact part1
  obtain ⟨_, _, _, _, _, _, _, _, _, _, _, e⟩ := sampleStep_onlySamples t s
  rw [e] at range' bounds ⊢
  exact ⟨packer, range', tq, bounds.1.trans pq, bounds.2, carrier⟩

theorem prodStep_inv {s : State} (inv : s.Inv) : (prodStep s).Inv := by
  obtain ⟨packer, range, tq, pq, code, carrier⟩ := inv
  obtain ⟨ts, _, _, _, _, _, push, e⟩ := prodStep_produces s
  rw [e]
  exact ⟨packer, range, push.length_le tq, pq, code, carrier⟩

/-- A PACK_STEP keeps the invariant when it leaves the packer in order and pushes three words at most (R110). -/
theorem pack_inv {s : State} (inv : s.Inv) (room : 3 ≤ s.pqFree) {acc : Byte} {fill : Nat} {lz : Bool}
    {ws : List PuWord} (fillOk : fill ≤ 7) (accOk : acc.toNat < 2 ^ fill) (three : ws.length ≤ 3) :
    State.Inv { s.popTq.note .done with acc := acc, fill := fill, lastZero := lz, pq := s.pq ++ ws } := by
  obtain ⟨-, range, tq, pq, code, carrier⟩ := inv
  have shorter : s.tq.tail.length ≤ s.params.tqDepth := by rw [List.length_tail]; omega
  have longer : (s.pq ++ ws).length ≤ s.params.pqDepth := by
    rw [List.length_append]
    unfold State.pqFree at room
    omega
  exact ⟨⟨fillOk, accOk⟩, range, shorter, longer, code, carrier⟩

theorem packData_inv {s : State} (inv : s.Inv) (room : 3 ≤ s.pqFree) (p : BitVec 16) :
    (packData p (s.popTq.note .done)).Inv := by
  have ⟨packer, _⟩ := inv
  obtain ⟨us, acc, fill, packed, two, fillOk, accOk, -⟩ := packData_of_ok (s := s.popTq.note .done) packer p
  rw [packed]
  exact pack_inv inv room fillOk accOk (by rw [List.length_map]; omega)

theorem packMarker_inv {s : State} (inv : s.Inv) (room : 3 ≤ s.pqFree) (g : Tag) (d : Byte) :
    (packMarker g d (s.popTq.note .done)).Inv := by
  have ⟨⟨fillOk, accOk⟩, _⟩ := inv
  by_cases held : s.fill = 0
  · rw [packMarker_of_empty (s := s.popTq.note .done) held]
    exact pack_inv inv room fillOk accOk (by simp)
  · rw [packMarker_of_held (s := s.popTq.note .done) held]
    refine pack_inv inv room (by omega) (by simp) ?_
    split <;> simp

theorem applyReset_inv {s : State} (carrier : s.carrier = s.params.carrier) : s.applyReset.Inv :=
  ⟨⟨by simp, by simp⟩, rfl, by simp, by simp, by simp, carrier⟩

theorem TurnEffect.inv {s s' : State} {turn : Turn} (effect : TurnEffect s turn s') (inv : s.Inv) : s'.Inv := by
  cases effect with
  | reset => exact applyReset_inv inv.2.2.2.2.2
  | sample ports => exact sampleStep_inv (s := s.note .done) inv ports.t
  | produce => exact prodStep_inv inv
  | packData w ws noFault room => exact packData_inv inv room (tokPattern w)
  | packMarker w ws noFault room => exact packMarker_inv inv room (tokTag w) (tokLow w)
  | _ => exact inv

/-! ### The wiring -/

/-- A row that is in order stays so when its end is dropped. -/
theorem opensFirst_of_append {l m : List Tag} (ordered : opensFirst (l ++ m) = true) : opensFirst l = true := by
  induction l with
  | nil => rfl
  | cons g l ih =>
    rw [List.cons_append, opensFirst] at ordered
    rw [opensFirst]
    split_ifs at ordered ⊢
    · rfl
    · exact ih ordered

/-- Two rows in order make one. -/
theorem opensFirst_append {l m : List Tag} (first : opensFirst l = true) (second : opensFirst m = true) :
    opensFirst (l ++ m) = true := by
  induction l with
  | nil => exact second
  | cons g l ih =>
    rw [opensFirst] at first
    rw [List.cons_append, opensFirst]
    split_ifs at first ⊢
    · rfl
    · exact ih first

/-- A data tag in a row in order stands behind an opening one, so what follows there is free. -/
theorem opensFirst_of_data {l m : List Tag} (ordered : opensFirst (l ++ 0#3 :: m) = true) (n : List Tag) :
    opensFirst (l ++ n) = true := by
  induction l with
  | nil => simp [opensFirst] at ordered
  | cons g l ih =>
    rw [List.cons_append, opensFirst] at ordered ⊢
    split_ifs at ordered ⊢
    · rfl
    · exact ih ordered

/-- The wiring reads these registers only. -/
theorem wired_of_same {s s' : State} (wired : s.Wired) (tq : s'.tq = s.tq) (pq : s'.pq = s.pq) (fill : s'.fill = s.fill)
    (pending : pendingTags s'.prod = pendingTags s.prod) (seg : s'.seg = .off false → s.seg = .off false) : s'.Wired := by
  obtain ⟨⟨tags, units⟩, ordered⟩ := wired
  refine ⟨⟨tq ▸ tags, pq ▸ units⟩, fun off => ?_⟩
  rw [State.tagsAhead, tq, pq, fill, pending]
  exact ordered (seg off)

theorem pendingTags_of_firstStage {p : Machine.Prod} (first : firstStage p = true) : pendingTags p = [] := by
  rcases p with _ | ⟨bytes, idx, stage, h⟩ | ⟨stage, h⟩
  · rfl
  · cases stage <;> simp_all [firstStage, pendingTags, inDataStage]
  · rfl

/-- What the producer appends keeps the row in order: data only behind data, a marker that opens what follows it. -/
theorem ProducerPush.opensFirst {s : State} {ts : List TokWord} {p : Machine.Prod} (push : ProducerPush s ts p)
    {l : List Tag} (ordered : opensFirst (l ++ pendingTags s.prod) = true) :
    opensFirst (l ++ (ts.map tokTag ++ pendingTags p)) = true := by
  cases push with
  | nothing p stays =>
    cases after : inDataStage p
    · have none : pendingTags p = [] := by simp [pendingTags, after]
      rw [none, List.map_nil, List.append_nil, List.append_nil]
      exact opensFirst_of_append ordered
    · have same : pendingTags p = pendingTags s.prod := by simp [pendingTags, after, stays after]
      rwa [same]
  | data w p room inData tag =>
    have pending : pendingTags s.prod = [0#3] := by simp [pendingTags, inData]
    rw [pending] at ordered
    exact opensFirst_of_data ordered _
  | marker w p room outside known opens =>
    exact opensFirst_append (opensFirst_of_append ordered) opens

theorem ProducerPush.tags {s : State} {ts : List TokWord} {p : Machine.Prod} (push : ProducerPush s ts p) :
    ∀ w ∈ ts, (tokTag w).toNat < 4 := by
  cases push with
  | nothing => exact nofun
  | data w p room inData tag => simp [tag]
  | marker w p room outside known opens => simpa using known

theorem prodStep_wired {s : State} (wired : s.Wired) : (prodStep s).Wired := by
  obtain ⟨⟨tags, units⟩, ordered⟩ := wired
  obtain ⟨ts, _, _, p, _, _, push, e⟩ := prodStep_produces s
  rw [e]
  refine ⟨⟨fun w mem => (List.mem_append.mp mem).elim (tags w) (push.tags w), units⟩, fun off => ?_⟩
  have before := ordered off
  have split : ∀ q t : List Tag, s.pq.map puTag ++ (heldTags s.fill ++ (t ++ q)) =
      s.pq.map puTag ++ (heldTags s.fill ++ t) ++ q := fun q t => by simp only [List.append_assoc]
  rw [State.tagsAhead, split] at before
  have after := push.opensFirst before
  simpa only [State.tagsAhead, List.map_append, List.append_assoc] using after

/-- A PACK_STEP keeps the wiring: its words carry the token's tag or that of a unit, and units come of data held or of a
data token. -/
theorem pack_wired {s : State} (wired : s.Wired) {w : TokWord} {ts : List TokWord} (queued : s.tq = w :: ts)
    {acc : Byte} {fill : Nat} {lz : Bool} {ws : List PuWord} (known : ∀ v ∈ ws, (puTag v).toNat < 4)
    (rest : s.fill = 0 ∧ tokTag w ≠ 0#3 → ws.map puTag ++ heldTags fill = [tokTag w]) :
    State.Wired { s.popTq.note .done with acc := acc, fill := fill, lastZero := lz, pq := s.pq ++ ws } := by
  obtain ⟨⟨tags, units⟩, ordered⟩ := wired
  refine ⟨⟨fun v mem => tags v (List.mem_of_mem_tail mem),
    fun v mem => (List.mem_append.mp mem).elim (units v) (known v)⟩, fun off => ?_⟩
  have before := ordered off
  have after : (State.tagsAhead { s.popTq.note .done with acc := acc, fill := fill, lastZero := lz, pq := s.pq ++ ws }) =
      s.pq.map puTag ++ ((ws.map puTag ++ heldTags fill) ++ (ts.map tokTag ++ pendingTags s.prod)) := by
    simp [State.tagsAhead, queued]
  rw [State.tagsAhead, queued, List.map_cons, List.cons_append] at before
  rw [after]
  by_cases held : s.fill = 0
  · by_cases data : tokTag w = 0#3
    · rw [heldTags, if_pos held, data, List.nil_append] at before
      exact opensFirst_of_data before _
    · rw [heldTags, if_pos held, List.nil_append] at before
      rwa [rest ⟨held, data⟩]
  · rw [heldTags, if_neg held, List.cons_append] at before
    exact opensFirst_of_data before _

/-- PACK_DATA pushes units only, whatever it finds in the accumulator. -/
theorem packBits_pushes_units (p : BitVec 16) (n : Nat) (s : State) :
    ∃ us : List Byte, (packBits p n s).pq = s.pq ++ us.map (puWord 0#3) := by
  have shifted : ∀ (b : Bool) (x : State), ∃ us : List Byte, (shiftIn b x).pq = x.pq ++ us.map (puWord 0#3) := by
    intro b x
    by_cases full : x.fill + 1 = 8
    · exact ⟨[accAfter b x.acc], by rw [shiftIn_full b x full]; rfl⟩
    · exact ⟨[], by rw [shiftIn_room b x full]; exact (List.append_nil _).symm⟩
  induction n generalizing s with
  | zero => exact ⟨[], (List.append_nil _).symm⟩
  | succ n ih =>
    obtain ⟨us, first⟩ := shifted (p.getLsbD n) s
    rw [packBits]
    split
    · exact ⟨us, first⟩
    · obtain ⟨vs, later⟩ := ih (shiftIn (p.getLsbD n) s)
      exact ⟨us ++ vs, by rw [later, first, List.map_append, List.append_assoc]⟩

theorem packData_wired {s : State} (wired : s.Wired) {w : TokWord} {ts : List TokWord} (queued : s.tq = w :: ts)
    (data : tokTag w = 0#3) : (Machine.packData (tokPattern w) (s.popTq.note .done)).Wired := by
  obtain ⟨acc, fill, lz, ws, packed⟩ := packBits_onlyPacks (tokPattern w) 16 (s.popTq.note .done)
  obtain ⟨us, pushed⟩ := packBits_pushes_units (tokPattern w) 16 (s.popTq.note .done)
  have units : ws = us.map (puWord 0#3) := by
    rw [packed] at pushed
    exact List.append_cancel_left pushed
  rw [Machine.packData, packed]
  refine pack_wired wired queued (fun v mem => ?_) fun isMarker => absurd data isMarker.2
  obtain ⟨u, -, rfl⟩ := List.mem_map.mp (units ▸ mem)
  rw [puTag_puWord]
  decide

theorem packMarker_wired {s : State} (wired : s.Wired) {w : TokWord} {ts : List TokWord} (queued : s.tq = w :: ts) :
    (Machine.packMarker (tokTag w) (tokLow w) (s.popTq.note .done)).Wired := by
  have known : (tokTag w).toNat < 4 := wired.1.1 w (by rw [queued]; exact List.mem_cons_self)
  by_cases held : s.fill = 0
  · rw [packMarker_of_empty (s := s.popTq.note .done) held]
    exact pack_wired wired queued (by simpa using known) fun _ => by simp [heldTags, held]
  · rw [packMarker_of_held (s := s.popTq.note .done) held]
    refine pack_wired wired queued ?_ fun empty => absurd empty.1 held
    have gapUnit : puTag 0#11 = 0#3 := by decide
    split <;> simp [known, gapUnit]

/-- Behind an idle Off the row begins with the tag of the word at the head of `PQ`. -/
theorem opensFirst_of_head {s : State} {w : PuWord} {ws : List PuWord} (wired : s.Wired) (off : s.seg = .off false)
    (queued : s.pq = w :: ws) : opensFirst (puTag w :: s.popPq.tagsAhead) = true := by
  obtain ⟨-, ordered⟩ := wired
  have before := ordered off
  have row : s.tagsAhead = puTag w :: s.popPq.tagsAhead := by simp [State.tagsAhead, queued]
  rwa [row] at before

/-- Part 1 of a SAMPLE step keeps the wiring, and no word it meets is a reserved one or a unit in the idle Off. -/
theorem Part1Effect.wired {s x : State} (effect : Part1Effect s x) (wired : s.Wired) :
    x.Wired ∧ x.fault = s.fault := by
  have ⟨⟨tags, units⟩, ordered⟩ := wired
  cases effect with
  | nothing => exact ⟨wired, rfl⟩
  | closes => exact ⟨⟨⟨tags, units⟩, nofun⟩, rfl⟩
  | pops w ws x live asks queued effect =>
    have known : (puTag w).toNat < 4 := units w (by rw [queued]; exact List.mem_cons_self)
    have units' : ∀ v ∈ s.pq.tail, (puTag v).toNat < 4 := fun v mem => units v (List.mem_of_mem_tail mem)
    cases effect with
    | unitFaults off unit =>
      have row := opensFirst_of_head wired off queued
      simp [unit, opensFirst] at row
    | reservedFaults reserved => omega
    | loads u opened => exact ⟨⟨⟨tags, units'⟩, nofun⟩, rfl⟩
    | opens h off => exact ⟨⟨⟨tags, units'⟩, nofun⟩, rfl⟩
    | acknowledges h onlyEom =>
      refine ⟨⟨⟨tags, units'⟩, fun off => ?_⟩, rfl⟩
      have row := opensFirst_of_head wired off queued
      rw [onlyEom off, opensFirst] at row
      exact row
    | ends h opened => exact ⟨⟨⟨tags, units'⟩, nofun⟩, rfl⟩
    | closes h off => exact ⟨⟨⟨tags, units'⟩, nofun⟩, rfl⟩

theorem TickedSeg.off_of_off {g : Segment} {c : Bool} (ticked : TickedSeg g (.off c)) : g = .off c := by
  cases ticked
  rfl

theorem rasterTick_wired {s : State} (wired : s.Wired) (t : Time) :
    (rasterTick t s).Wired ∧ (rasterTick t s).fault = s.fault := by
  have seg : (rasterTick t s).seg = .off false → s.seg = .off false := by
    obtain same | ticked := rasterTick_seg t s
    · exact same.symm.trans
    · exact fun off => (off ▸ ticked).off_of_off
  obtain ⟨_, _, _, _, _, _, _, _, e⟩ := rasterTick_frame t s
  rw [e] at seg ⊢
  exact ⟨wired_of_same wired rfl rfl rfl rfl seg, rfl⟩

theorem sampleStep_wired {s : State} (wired : s.Wired) (noFault : s.fault = 0#2) (t : Time) :
    (sampleStep t s).Wired ∧ (sampleStep t s).fault = 0#2 := by
  obtain ⟨wired1, fault1⟩ := (sequencerPart_effect s).wired wired
  obtain ⟨-, e⟩ | ⟨-, e⟩ := sampleStep_cases t s <;> rw [e]
  · exact ⟨wired1, fault1.trans noFault⟩
  · obtain ⟨wired2, fault2⟩ := rasterTick_wired wired1 t
    exact ⟨wired2, fault2.trans (fault1.trans noFault)⟩

theorem construct_wired (p : Params) : (State.construct p).Wired := ⟨⟨nofun, nofun⟩, fun _ => rfl⟩

theorem TurnEffect.wired {s s' : State} {turn : Turn} (effect : TurnEffect s turn s') (wired : s.Wired)
    (noFault : s.fault = 0#2) : s'.Wired ∧ s'.fault = 0#2 := by
  have idlePending : s.prod = .idle → pendingTags s.prod = [] := fun idle => by rw [idle]; rfl
  cases effect with
  | reset => exact ⟨⟨⟨nofun, nofun⟩, fun _ => rfl⟩, rfl⟩
  | sample ports => exact sampleStep_wired (s := s.note .done) wired noFault ports.t
  | start op ports p k other _ idle first =>
    exact ⟨wired_of_same wired rfl rfl rfl ((pendingTags_of_firstStage first).trans (idlePending idle).symm) id, noFault⟩
  | startFails op ports other _ idle => exact ⟨wired_of_same wired rfl rfl rfl (idlePending idle).symm id, noFault⟩
  | produce =>
    obtain ⟨-, -, -, -, fault⟩ := prodStep_holdsAir s
    exact ⟨prodStep_wired wired, fault.trans noFault⟩
  | packData w ws _ room queued data =>
    obtain ⟨-, -, -, -, fault⟩ := holdsAir_of_onlyPacks (packBits_onlyPacks (tokPattern w) 16 (s.popTq.note .done))
    exact ⟨packData_wired wired queued data, fault.trans noFault⟩
  | packMarker w ws _ room queued =>
    obtain ⟨-, -, -, -, fault⟩ :=
      holdsAir_of_onlyPacks (packMarker_onlyPacks (tokTag w) (tokLow w) (s.popTq.note .done))
    exact ⟨packMarker_wired wired queued, fault.trans noFault⟩
  | _ => exact ⟨wired, noFault⟩

/-! ### The statements -/

/-- Settles O54: every effect of a turn keeps the invariant. -/
theorem stepKeepsInvariant : Obligations.StepKeepsInvariant := by
  intro s s' inv stepped
  obtain ⟨-, rfl⟩ | ⟨turn, rest, -, effect⟩ := step_effect stepped
  · exact inv
  · exact effect.inv (s := { s with agenda := rest }) inv

/-- Settles O55: every effect of a turn keeps the wiring, and a wired SAMPLE step meets no word that faults. -/
theorem wiredBlockNeverFaults : Obligations.WiredBlockNeverFaults := by
  intro s s' wired noFault stepped
  obtain ⟨-, rfl⟩ | ⟨turn, rest, -, effect⟩ := step_effect stepped
  · exact ⟨wired, noFault⟩
  · exact effect.wired (s := { s with agenda := rest }) wired noFault

/-- Settles O53: the queues and the accumulator are empty. -/
theorem constructedStateHasInvariantAndWiring : Obligations.ConstructedStateHasInvariantAndWiring := by
  have inv : ∀ p, (State.construct p).Inv := fun p =>
    ⟨⟨Nat.zero_le 7, Nat.one_pos⟩, rfl, Nat.zero_le _, Nat.zero_le _, by simp [State.construct], rfl⟩
  exact ⟨fun p => ⟨inv p, construct_wired p, rfl⟩, inv _, construct_wired _⟩

end Sys2Proof
end
